-- ==== Sys2Proof/Word.lean ====
section
/-! DEFINITION. The bit-level types of the KU-420: a byte of a frame or of a host-link transaction, the levels
of a line pin over time (R1, R3), and the bits of the host link (R146). -/

namespace Sys2Proof

/-- One byte: of a line frame (Table 10-1) or of a host-link transaction (R146). -/
abbrev Byte := BitVec 8

/-- The level of a line pin (TXD or RXD) over time: one entry for each half bit time, `true` for mark, `false`
for space (R1, R3; the resolution is the model's, notes/assumptions 8). -/
abbrev Levels := List Bool

/-- Bits of the host link in the order in which SCK clocks them (R146). -/
abbrev Bits := List Bool

/-- A number as one byte, as the layouts of Chapter 10 carry it. -/
abbrev byte (n : Nat) : Byte := BitVec.ofNat 8 n

/-- A number as two bytes, high byte first (section 3.3 of 00_scope.md). -/
abbrev twoBytes (n : Nat) : List Byte := [byte (n / 256), byte n]

/-- A flag as one byte, 0 or 1. -/
abbrev flagByte (b : Bool) : Byte := if b then 1 else 0

end Sys2Proof
end

