-- ==== Sys2Proof/Config.lean ====
section
/-! DEFINITION. The figures of the part (00_scope.md section 1.3, Table 2-3) and the free values: what the
spec leaves to chance or open. -/

namespace Sys2Proof.Config

/-- FREE VALUE (R20, R25, R43): the values the station's pseudo-random generator gives, by the number of
values taken before. Each is an independent choice of which the spec fixes no value (notes/assumptions 4). -/
opaque generatorValue : Nat → Nat

/-- FREE VALUE: ranks the timers that run out on the same tick; the spec takes simultaneous events in
either order (notes/assumptions 3). First argument: the tick; second: the timer's place in the list. -/
opaque tickRank : Nat → Nat → Nat

/-- Slots of the outbound store (R79). -/
abbrev slots : Nat := 48
/-- Peer records (R61). -/
abbrev peers : Nat := 30
/-- Destination queues, one per address 1..31 (section 5.3). -/
abbrev queues : Nat := 31
/-- The broadcast address (section 3.2 of 00_scope.md). -/
abbrev broadcast : Nat := 31
/-- Records the inbound store holds at most (R118). -/
abbrev inboundRoom : Nat := 32
/-- Records the outcome queue holds at most (R136). -/
abbrev outcomeRoom : Nat := 16
/-- Payload bytes at most (R86). -/
abbrev payloadMax : Nat := 64
/-- Characters of the largest and of the smallest frame (R12). -/
abbrev frameMax : Nat := 71
/-- Characters of a frame without payload (R161). -/
abbrev frameMin : Nat := 7
/-- Half bit times of a character: ten bit times, which are 1 ct (R1). -/
abbrev charCells : Nat := 20
/-- Where every counter saturates (R143). -/
abbrev counterMax : Nat := 65535
/-- The collision that finds the count here is the sixteenth in a row (R29). -/
abbrev collisionLimit : Nat := 15
/-- The access gap in ct (R24). -/
abbrev accessGap : Nat := 6
/-- One backoff slot in ct (R25). -/
abbrev backoffSlot : Nat := 2
/-- The reply window in ct (R31). -/
abbrev replyWindow : Nat := 4
/-- The quiet in ct that ends a line fault (R37). -/
abbrev recoveryQuiet : Nat := 64

/-- The level on ADDR4..ADDR0 in the state after reset, that of section 9.7's worked sequence: DESIGN
CHOICE (notes/assumptions 5). -/
abbrev resetStraps : BitVec 5 := 6

end Sys2Proof.Config
end

