-- ==== Sys2Proof/Syntax.lean ====
section
/-! DEFINITION. The commands the KU-420 takes: one constructor per row of spec/opcode_table.json, with the
operands the rule of the row needs. The table gives the rows no bits, so what an operand is, is the
model's choice (notes/assumptions 2, 8, 9, 12, 13, 14). An operand that need not be written has a
value of its own: no bits on SDI, no levels on RXD, no ms, the pins' levels of the state after reset, and for the byte
of STATUS_BYTE_CLOCKED 0x00, the NOP code (notes/assumptions 23). -/

namespace Sys2Proof

/-- One command: an event on a pin or on the host link, a request, a line event, or a timer that runs out. -/
inductive Instr where
  /-- PIN_RESET (R59): a low level on RESET; `straps` is ADDR4..ADDR0, `rxdMark` says RXD is at mark, and `sdi`
  are the bits the host has clocked in a transaction under way since the last report of it (none otherwise). -/
  | pinReset (straps : BitVec 5) (rxdMark : Bool) (sdi : Bits := [])
  /-- TRANSACTION_START (R147): SEL falls. -/
  | transactionStart
  /-- STATUS_BYTE_CLOCKED (R151): byte 0 of the transaction completes; it is the byte sampled on SDI, 0x00 (NOP)
  where not written (notes/assumptions 23). -/
  | statusByteClocked (byte0 : Byte := 0)
  /-- TRANSACTION_END (R152): SEL rises; `sdi` are the bits sampled on SDI since the last report of the
  transaction, `straps` and `rxdMark` the levels on ADDR4..ADDR0 and RXD at that instant, which only RESTART samples
  (those of the state after reset where not written). -/
  | transactionEnd (sdi : Bits) (straps : BitVec 5 := Config.resetStraps) (rxdMark : Bool := true)
  /-- NOP (R152): a request with the NOP code. -/
  | nop
  /-- STATUS (R156). -/
  | status
  /-- CONFIGURE (R40): the eight parameter bytes of Table 10-3, in order. -/
  | configure (rate attempts retryBase beacon holdTime holdLevel resumeLevel mask : Byte)
  /-- JOIN (R42). -/
  | join
  /-- LEAVE (R51): the mode byte, 0 DRAIN or 1 ABANDON. -/
  | leave (mode : Byte)
  /-- RESTART (R60); the levels on ADDR4..ADDR0 and RXD at the instant it is taken. -/
  | restart (straps : BitVec 5) (rxdMark : Bool)
  /-- POST (R86): destination, class and length bytes, then the payload bytes that were clocked. -/
  | post (dest cls length : Byte) (payload : List Byte)
  /-- CANCEL (R89): slot and tag. -/
  | cancel (slot tag : Byte)
  /-- FETCH (R128). -/
  | fetch
  /-- TAKE_OUTCOMES (R139). -/
  | takeOutcomes (max : Byte)
  /-- READ_PEER (R77). -/
  | readPeer (address : Byte)
  /-- READ_COUNTERS (R144). -/
  | readCounters (clear : Byte)
  /-- ACTIVITY_START (R4): activity starts on an idle line; `rxd` are the levels on RXD from that instant to the
  report, at least one half bit time at space if none is given. -/
  | activityStart (rxd : Levels := [])
  /-- END_OF_FRAME (R6): an idle longer than 1 ct ends a burst; `rxd` are the levels on RXD since the last report
  of the burst, the closing idle apart. -/
  | endOfFrame (rxd : Levels)
  /-- ACCESS_GAP_COMPLETE (R24): the idle period reaches 6 ct. -/
  | accessGapComplete
  /-- LINE_WIN (R27): the drawn slots complete. -/
  | lineWin
  /-- FRAME_COMPLETE (R30): the contended frame's last character was compared; `rxd` are the levels on RXD since
  its first start bit began. -/
  | frameComplete (rxd : Levels)
  /-- COLLISION (R28): a readback fails in SENDING; `rxd` are the levels on RXD since the frame's first start bit
  began, up to that comparison. -/
  | collision (rxd : Levels)
  /-- REPLY_GAP (R33): exactly 2 ct after the answered DATA frame. -/
  | replyGap
  /-- REPLY_COMPLETE (R34): the reply's last character was compared; `rxd` as in FRAME_COMPLETE. -/
  | replyComplete (rxd : Levels)
  /-- REPLY_COLLISION (R34): a readback fails in REPLYING; `rxd` as in COLLISION. -/
  | replyCollision (rxd : Levels)
  /-- REPLY_WINDOW_TIMEOUT (R31): the idle after the own DATA frame reaches 4 ct. -/
  | replyWindowTimeout
  /-- STUCK_LINE (R35): one burst has lasted 200 ct. -/
  | stuckLine
  /-- LINE_QUIET (R37): 64 ct of continuous idle in LINE_FAULT. -/
  | lineQuiet
  /-- JOIN_LISTEN_EXPIRY (R44); in this and the five rows below, `elapsed` ms of the timebase pass first. -/
  | joinListenExpiry (elapsed : Nat := 0)
  /-- BEACON_TIMER_EXPIRY (R49). -/
  | beaconTimerExpiry (elapsed : Nat := 0)
  /-- HOLD_RENEWAL_EXPIRY (R50). -/
  | holdRenewalExpiry (elapsed : Nat := 0)
  /-- PRESENCE_TIMEOUT (R66) of the peer with this address. -/
  | presenceTimeout (peer : Nat) (elapsed : Nat := 0)
  /-- HOLD_TIMER_EXPIRY (R72) of the peer with this address. -/
  | holdTimerExpiry (peer : Nat) (elapsed : Nat := 0)
  /-- RETRY_TIMER_EXPIRY (R113) of the message in this slot. -/
  | retryTimerExpiry (slot : Nat) (elapsed : Nat := 0)
  deriving DecidableEq, Repr

end Sys2Proof
end

