-- ==== Sys2Proof/Machine/State.lean ====
section
/-! DEFINITION. The state of the KU-420: every item Tables 2-1, 3-2, 3-3, 4-1, 5-1, 5-2, 6-1, 7-1 and 8-1
and Chapters 2 and 9 of the spec give its blocks, as plain data, and its value after reset. -/

namespace Sys2Proof.Machine

/-- Why the machine stops with a fault: never. The spec gives every command an effect or an answer in every
state (R160, Table 11-1), so no constructor is needed (notes/assumptions 18). Safe: nothing is claimed of a stop. -/
inductive Fault where
  deriving DecidableEq, Repr

/-- Why a command has no meaning in the model. -/
inductive Refusal where
  /-- Raised by `exec` for a command whose meaning is not written yet; no command is at present. Safe. -/
  | notModelled (mnemonic : String)
  deriving DecidableEq, Repr

/-! ### The line -/

/-- The receiver (R3). -/
inductive Receiver where
  /-- It waits for a change from mark to space. -/
  | waiting
  /-- A candidate start bit or a character is being received: `cells` half bit times of it have passed, and
  `byte` holds the data bits sampled so far, the last one in the most significant place. -/
  | receiving (cells : Nat) (byte : Byte)
  /-- After a character with a missing stop bit it looks for no start bit until it has seen RXD at mark. -/
  | broken
  deriving DecidableEq, Repr

/-- The burst under way (R5): what R6 needs to know of it at its end, and the characters completed in it. -/
structure Burst where
  /-- DE was asserted at some moment of it (R18). -/
  own : Bool
  /-- The station was UNJOINED at its first start bit, or took a JOIN or a reset during it (R6, R19). -/
  ignored : Bool
  /-- The bytes of its first 71 characters (R5). -/
  bytes : List Byte
  /-- How many characters it has (R5). -/
  count : Nat
  /-- Some character had a missing stop bit (R5). -/
  faulted : Bool
  deriving DecidableEq, Repr

/-- The line interface (Chapter 1). -/
structure Line where
  /-- RXD is at mark, as last reported. -/
  rxd : Bool
  receiver : Receiver
  /-- How many half bit times RXD has been at mark since it returned there or the last character's stop bit
  ended: the length of the idle period while the line is idle (R4), as last reported (notes/assumptions 11). -/
  quiet : Nat
  burst : Option Burst
  deriving DecidableEq, Repr

/-- The reason of a notice (R48); the field of a NOTICE frame (R10). -/
inductive Reason where
  | join | beacon | hold | leave
  deriving DecidableEq, Repr

/-- The kind of a frame (Table 1-1); a NOTICE carries its reason. -/
inductive FrameKind where
  | data | datagram | ack | refuse
  | notice (reason : Reason)
  deriving DecidableEq, Repr

/-- A frame's content (Table 1-1); its bytes, with length and CRC, are `Frame.bytes`. -/
structure Frame where
  kind : FrameKind
  dest : Nat
  h : Bool
  source : Nat
  epoch : Nat
  seq : Nat
  payload : List Byte
  deriving DecidableEq, Repr

/-! ### The access controller (Chapter 2) -/

/-- Table 2-1. -/
inductive AccessState where
  | off | idle | defer | gap | draw | sending | awaitReply | replying
  deriving DecidableEq, Repr

structure Access where
  state : AccessState
  /-- The consecutive-collision count n (R29). -/
  n : Nat
  /-- The slot count of the current draw (R25). -/
  draw : Option Nat
  /-- The frame being driven, in SENDING and REPLYING (R27, R33). -/
  frame : Option Frame
  /-- A reply decided and not yet sent (R21, R33). -/
  reply : Option Frame
  /-- Activity has occupied the open reply window (R31). -/
  occupied : Bool
  /-- The stuck-line count runs (R35). -/
  stuck : Bool
  /-- The recovery count is started (R37). -/
  recovery : Bool
  deriving DecidableEq, Repr

/-! ### The station controller (Chapter 3) -/

inductive StationState where
  | unjoined | joining | active | leaving | lineFault
  deriving DecidableEq, Repr

inductive FaultReason where
  | none | addressInUse | lineStuck | collisions
  deriving DecidableEq, Repr

inductive LeaveMode where
  | drain | abandon
  deriving DecidableEq, Repr

/-- A slow timer of the 1 ms timebase: stopped, running with ms remaining, or run out. -/
inductive Timer where
  | stopped
  | running (ms : Nat)
  | runOut
  deriving DecidableEq, Repr

/-- The notices pending, at most one of each reason (R48). -/
structure NoticeSet where
  join : Bool
  beacon : Bool
  hold : Bool
  leave : Bool
  deriving DecidableEq, Repr

/-- The attention mask (R142). -/
structure AttnMask where
  outcome : Bool
  inbound : Bool
  state : Bool
  conflict : Bool
  deriving DecidableEq, Repr

/-- The configuration record, in the units of Table 3-3. -/
structure ConfigRecord where
  rate : Nat
  attemptLimit : Nat
  retryBase : Nat
  beacon : Nat
  holdTime : Nat
  holdLevel : Nat
  resumeLevel : Nat
  mask : AttnMask
  deriving DecidableEq, Repr

/-- Table 3-2. -/
structure Station where
  state : StationState
  config : ConfigRecord
  address : Nat
  epoch : Nat
  prevEpoch : Option Nat
  leaveMode : Option LeaveMode
  leavePending : Bool
  notices : NoticeSet
  lastSentH : Bool
  listen : Timer
  beacon : Timer
  renewal : Timer
  faultReason : FaultReason
  stateChange : Bool
  conflict : Bool
  deriving DecidableEq, Repr

/-! ### The peer table (Chapter 4) -/

inductive Presence where
  | unknown | present | silent
  deriving DecidableEq, Repr

/-- Table 4-1. -/
structure PeerRecord where
  presence : Presence
  presenceTimer : Timer
  /-- HELD; OPEN when false (R72). -/
  held : Bool
  holdTimer : Timer
  epoch : Option Nat
  lastAccepted : Option Nat
  nextTx : Nat
  deriving DecidableEq, Repr

/-- The initial column of Table 4-1. -/
def PeerRecord.initial : PeerRecord where
  presence := .unknown
  presenceTimer := .stopped
  held := false
  holdTimer := .stopped
  epoch := none
  lastAccepted := none
  nextTx := 0

/-! ### The outbound store (Chapter 5) -/

inductive MsgClass where
  | acked | datagram
  deriving DecidableEq, Repr

/-- Withdraw marks (R90). -/
inductive Mark where
  | cancelled | abandoned | peerSilent
  deriving DecidableEq, Repr

/-- Results of a resolution (R92). -/
inductive MsgResult where
  | delivered | sent | noAck | peerSilent | cancelled | abandoned
  deriving DecidableEq, Repr

/-- The states of a slot that holds a message (Table 5-2), each with the record fields of Table 5-1 that
exist in it only: the mark (R90), the retry timer and the result (R81). -/
inductive SlotState where
  | queued
  | onLine (mark : Option Mark)
  | awaitReply (mark : Option Mark)
  | retryWait (ms : Nat)
  | done (result : MsgResult)
  deriving DecidableEq, Repr

/-- Table 5-1; the length is that of the payload. -/
structure Message where
  dest : Nat
  cls : MsgClass
  payload : List Byte
  attempts : Nat
  seq : Option Nat
  state : SlotState
  deriving DecidableEq, Repr

/-- A slot: its tag (R80) and the message it holds; FREE when it holds none (R79). -/
structure Slot where
  tag : Nat
  msg : Option Message
  deriving DecidableEq, Repr

structure Outbound where
  slots : Vector Slot 48
  /-- The destination queue of address d stands at d − 1, oldest slot first (R83, R84). -/
  queues : Vector (List Nat) 31
  deriving DecidableEq, Repr

/-! ### The delivery engine (Chapter 6) -/

inductive InFlight where
  | none
  | notice (reason : Reason)
  | message (slot : Nat)
  deriving DecidableEq, Repr

/-- Table 6-1. -/
structure Engine where
  lastServed : Nat
  inFlight : InFlight
  deriving DecidableEq, Repr

/-! ### The inbound store (Chapter 7) -/

/-- Table 7-1; the length is that of the payload. -/
structure Received where
  source : Nat
  cls : MsgClass
  broadcast : Bool
  payload : List Byte
  deriving DecidableEq, Repr

structure Inbound where
  /-- Oldest first (R118). -/
  records : List Received
  /-- The hold flag H (R125). -/
  h : Bool
  deriving DecidableEq, Repr

/-! ### The outcome queue and the counters (Chapter 8) -/

/-- Table 8-1. -/
structure OutcomeRecord where
  slot : Nat
  tag : Nat
  dest : Nat
  result : MsgResult
  attempts : Nat
  deriving DecidableEq, Repr

structure Outcomes where
  /-- Oldest first (R136). -/
  queue : List OutcomeRecord
  /-- The DONE slots, in resolution order (R136). -/
  waiting : List Nat
  deriving DecidableEq, Repr

/-- Table 8-2, in its order. -/
structure Counters where
  framesSent : Nat
  framesHeard : Nat
  crcErrors : Nat
  framingErrors : Nat
  malformed : Nat
  collisions : Nat
  duplicates : Nat
  refusalsSent : Nat
  droppedDatagrams : Nat
  strayReplies : Nat
  addressConflicts : Nat
  deriving DecidableEq, Repr

/-! ### The host link (Chapter 9) -/

/-- The result codes of Table 10-4. -/
inductive ReplyResult where
  | ok | accepted | restarted | empty | cancelled | pending | finished
  | wrongState | badParameter | badAddress | notActive | badDest | tooLong | badClass
  | peerSilent | noSlot | unknownHandle | malformed | unknownRequest
  deriving DecidableEq, Repr

/-- A reply (R149, R164): the echoed request code, a result, and the data bytes. -/
structure Reply where
  echo : Byte
  result : ReplyResult
  data : List Byte
  deriving DecidableEq, Repr

/-- The transaction in progress (R147). -/
structure Transaction where
  /-- The link status byte formed at SEL falling (R148, R162). -/
  status : Byte
  /-- What the reply slot held at SEL falling. -/
  noted : Option Reply
  /-- The bits sampled on SDI so far, as reported (R146). -/
  sdi : Bits
  deriving DecidableEq, Repr

structure Link where
  reply : Option Reply
  discarded : Bool
  txn : Option Transaction
  /-- The SEL pin is low (R146, R153). -/
  selLow : Bool
  /-- The bits sent on SDO since SEL fell last, as reported (notes/assumptions 17). -/
  sdo : Bits
  deriving DecidableEq, Repr

/-- The strap pins ADDR4..ADDR0 as last sampled (R41). -/
structure Pins where
  straps : BitVec 5
  deriving DecidableEq, Repr

/-- The state of the part, block by block (Table 2-1 of 00_scope.md), and the queue of waiting commands. -/
structure State where
  pins : Pins
  line : Line
  access : Access
  station : Station
  /-- The record of address a stands at a − 1 (R61). -/
  peers : Vector PeerRecord 30
  outbound : Outbound
  engine : Engine
  inbound : Inbound
  outcomes : Outcomes
  counters : Counters
  link : Link
  /-- Values taken so far from the pseudo-random generator (notes/assumptions 4). -/
  generator : Nat
  /-- Ticks of the 1 ms timebase so far (notes/assumptions 3). -/
  ticks : Nat
  /-- The commands that wait, first in first out (notes/assumptions 1). -/
  pending : List Instr
  deriving DecidableEq, Repr

/-! ### Reset -/

/-- No notice pending (R48). -/
def NoticeSet.empty : NoticeSet where
  join := false
  beacon := false
  hold := false
  leave := false

/-- The defaults of Table 3-3 (R39). -/
def ConfigRecord.default : ConfigRecord where
  rate := 4
  attemptLimit := 4
  retryBase := 10
  beacon := 10
  holdTime := 20
  holdLevel := 24
  resumeLevel := 8
  mask := ⟨true, true, true, true⟩

/-- All eleven counters at 0 (R143). -/
def Counters.zero : Counters where
  framesSent := 0
  framesHeard := 0
  crcErrors := 0
  framingErrors := 0
  malformed := 0
  collisions := 0
  duplicates := 0
  refusalsSent := 0
  droppedDatagrams := 0
  strayReplies := 0
  addressConflicts := 0

/-- The access controller after pin reset and RESTART (R20). -/
def Access.reset : Access where
  state := .off
  n := 0
  draw := none
  frame := none
  reply := none
  occupied := false
  stuck := false
  recovery := false

/-- The line right after a reset with RXD at that level (R3, R4, R19), where `under` is the burst under way at it: the
receiver waits and idle measurement starts at once. A burst under way goes on, ignored (R19), also with RXD at mark,
until an idle longer than 1 ct (R5), counted from the reset (notes/assumptions 20); none of its characters is kept, as
an ignored burst is not judged. With RXD at space the line is active, in an ignored burst (R4, R6). -/
def Line.reset (under : Option Burst) (rxdMark : Bool) : Line where
  rxd := rxdMark
  receiver := .waiting
  quiet := 0
  burst :=
    match under with
    | some b => some ⟨b.own, true, [], 0, false⟩
    | none => if rxdMark then none else some ⟨false, true, [], 0, false⟩

/-- Table 3-2, with the given configuration record and sampled address (R39, R41). -/
def Station.reset (config : ConfigRecord) (address : Nat) : Station where
  state := .unjoined
  config := config
  address := address
  epoch := 0
  prevEpoch := none
  leaveMode := none
  leavePending := false
  notices := NoticeSet.empty
  lastSentH := false
  listen := .stopped
  beacon := .stopped
  renewal := .runOut
  faultReason := .none
  stateChange := false
  conflict := false

/-- Every slot FREE with tag 0 and every queue empty (R79). -/
def Outbound.reset : Outbound where
  slots := Vector.replicate 48 ⟨0, none⟩
  queues := Vector.replicate 31 []

/-- The part right after pin reset: each block as its chapter says (R59). The levels of the straps, of RXD
(mark) and of SEL (high) are DESIGN CHOICE (notes/assumptions 5). -/
def State.reset : State where
  pins := ⟨Config.resetStraps⟩
  line := Line.reset none true
  access := Access.reset
  station := Station.reset ConfigRecord.default Config.resetStraps.toNat
  peers := Vector.replicate 30 PeerRecord.initial
  outbound := Outbound.reset
  engine := ⟨31, .none⟩
  inbound := ⟨[], false⟩
  outcomes := ⟨[], []⟩
  counters := Counters.zero
  link := ⟨none, false, none, false, []⟩
  generator := 0
  ticks := 0
  pending := []

end Sys2Proof.Machine
end

