-- ==== Sys2Proof/Machine/Operands.lean ====
section
/-! DEFINITION. What the commands' operands and the part's outputs are made of: characters (R3), the bits of a
byte on the host link (R146), the CRC (R11), the line frame (R161), the check of a heard frame (R12, R13), and
the encodings of the host link (R162 to R165). -/

namespace Sys2Proof.Machine

/-! ### Characters -/

/-- A character the receiver completed (R3): its byte, and whether its stop bit was sampled at mark. -/
structure RxChar where
  byte : Byte
  stop : Bool
  deriving DecidableEq, Repr

/-! ### The CRC -/

/-- Step 4 of R11 for one data bit. -/
def crcBit (r : BitVec 16) (d : Bool) : BitVec 16 :=
  if (r.msb != d) then (r <<< 1) ^^^ 0x1021#16 else r <<< 1

/-- R11: one byte, most significant bit first. -/
def crcByte (r : BitVec 16) (b : Byte) : BitVec 16 :=
  (List.range 8).foldl (fun r i => crcBit r (b.getMsbD i)) r

/-- R11: the CRC of a frame's bytes, from a remainder of 0xFFFF. -/
def crc (bytes : List Byte) : BitVec 16 := bytes.foldl crcByte 0xFFFF#16

/-- The two CRC characters, high byte first (R11). -/
def crcBytes (bytes : List Byte) : List Byte :=
  [(crc bytes).extractLsb' 8 8, (crc bytes).extractLsb' 0 8]

/-! ### The line frame -/

/-- The reason code of a notice (R10). -/
def Reason.code : Reason → Nat
  | .join => 0
  | .beacon => 1
  | .hold => 2
  | .leave => 3

/-- The kind code (R161). -/
def FrameKind.code : FrameKind → Nat
  | .data => 0
  | .datagram => 1
  | .ack => 2
  | .refuse => 3
  | .notice _ => 4

/-- The reason field: the notice's reason, zero in every other kind (Table 1-1). -/
def FrameKind.reasonCode : FrameKind → Nat
  | .notice r => r.code
  | _ => 0

/-- Kind and destination (Table 10-1, byte 0). -/
def Frame.byte0 (f : Frame) : Byte := BitVec.ofNat 3 f.kind.code ++ BitVec.ofNat 5 f.dest

/-- H, two zero bits and the source (Table 10-1, byte 1). -/
def Frame.byte1 (f : Frame) : Byte := (BitVec.ofBool f.h ++ 0#2) ++ BitVec.ofNat 5 f.source

/-- Epoch and reason (Table 10-1, byte 2). -/
def Frame.byte2 (f : Frame) : Byte := BitVec.ofNat 4 f.epoch ++ BitVec.ofNat 4 f.kind.reasonCode

/-- The frame's bytes before its CRC (Table 10-1). -/
def Frame.body (f : Frame) : List Byte :=
  f.byte0 :: f.byte1 :: f.byte2 :: byte f.seq :: byte f.payload.length :: f.payload

/-- The frame's characters, in line order (R161). -/
def Frame.bytes (f : Frame) : List Byte := f.body ++ crcBytes f.body

/-- The notice reason of a reason field, 0..3 (R13). -/
def reasonOf (code : Nat) : Option Reason :=
  match code with
  | 0 => some .join
  | 1 => some .beacon
  | 2 => some .hold
  | 3 => some .leave
  | _ => none

/-- The fields of Table 10-1 as read, and the checks of R13 on them: the frame, or none when MALFORMED.
`b0` to `b2`, `seq` and `len` are bytes 0 to 4, `payload` the characters between byte 4 and the CRC. -/
def fieldCheck (b0 b1 b2 seq len : Byte) (payload : List Byte) : Option Frame :=
  let kindCode := (b0.extractLsb' 5 3).toNat
  let dest := (b0.extractLsb' 0 5).toNat
  let source := (b1.extractLsb' 0 5).toNat
  let epoch := (b2.extractLsb' 4 4).toNat
  let reason := (b2.extractLsb' 0 4).toNat
  let frame := fun kind =>
    Frame.mk kind dest (b1.getLsbD 7) source epoch seq.toNat payload
  if b1.extractLsb' 5 2 ≠ 0#2 then none
  else if len.toNat ≠ payload.length then none
  else if source = 0 ∨ source = 31 then none
  else
    match kindCode with
    | 0 => if dest = 31 ∨ reason ≠ 0 then none else some (frame .data)
    | 1 => if reason ≠ 0 ∨ seq ≠ 0 then none else some (frame .datagram)
    | 2 => if dest = 31 ∨ reason ≠ 0 ∨ len ≠ 0 then none else some (frame .ack)
    | 3 => if dest = 31 ∨ reason ≠ 0 ∨ len ≠ 0 then none else some (frame .refuse)
    | 4 =>
      if dest ≠ 31 ∨ seq ≠ 0 ∨ len ≠ 0 then none
      else (reasonOf reason).map fun r => frame (.notice r)
    | _ => none

/-- The field checks of R13 on the bytes before the CRC. -/
def parseBody : List Byte → Option Frame
  | b0 :: b1 :: b2 :: seq :: len :: payload => fieldCheck b0 b1 b2 seq len payload
  | _ => none

/-- Names of the eleven counters (Table 8-2). -/
inductive CounterName where
  | framesSent | framesHeard | crcErrors | framingErrors | malformed | collisions
  | duplicates | refusalsSent | droppedDatagrams | strayReplies | addressConflicts
  deriving DecidableEq, Repr

/-- What the frame unit finds in a burst (R5, R12). -/
inductive Found where
  /-- No character was completed: not a frame (R5). -/
  | noFrame
  /-- Discarded under the counter of the first check that failed (R12). -/
  | discarded (counter : CounterName)
  | valid (f : Frame)
  deriving DecidableEq, Repr

/-- R5 and the four checks of R12, in order, on the characters of a burst. -/
def Burst.found (b : Burst) : Found :=
  let body := b.bytes.take (b.bytes.length - 2)
  if b.count = 0 then .noFrame
  else if b.faulted then .discarded .framingErrors
  else if b.count < Config.frameMin ∨ Config.frameMax < b.count then .discarded .malformed
  else if b.bytes.drop (b.bytes.length - 2) ≠ crcBytes body then .discarded .crcErrors
  else
    match parseBody body with
    | none => .discarded .malformed
    | some f => .valid f

/-! ### Encodings of the host link -/

/-- A byte's bits in the order of the link, most significant first (R146). -/
def bitsOf (b : Byte) : Bits := (List.range 8).map b.getMsbD

/-- The complete bytes that bits form, eight to a byte, most significant first; the bits of a byte that is not
complete are dropped (R146). -/
def bytesOf : Bits → List Byte
  | b7 :: b6 :: b5 :: b4 :: b3 :: b2 :: b1 :: b0 :: rest =>
    BitVec.ofBoolListBE [b7, b6, b5, b4, b3, b2, b1, b0] :: bytesOf rest
  | _ => []

/-- Table 10-2 and Table 10-5: the station state codes. -/
def StationState.code : StationState → Nat
  | .unjoined => 0
  | .joining => 1
  | .active => 2
  | .leaving => 3
  | .lineFault => 4

/-- Table 10-5: the fault reason codes. -/
def FaultReason.code : FaultReason → Nat
  | .none => 0
  | .addressInUse => 1
  | .lineStuck => 2
  | .collisions => 3

/-- Table 10-4: the result codes. -/
def ReplyResult.code : ReplyResult → Byte
  | .ok => 0x00
  | .accepted => 0x01
  | .restarted => 0x02
  | .empty => 0x03
  | .cancelled => 0x04
  | .pending => 0x05
  | .finished => 0x06
  | .wrongState => 0x10
  | .badParameter => 0x11
  | .badAddress => 0x12
  | .notActive => 0x13
  | .badDest => 0x14
  | .tooLong => 0x15
  | .badClass => 0x16
  | .peerSilent => 0x17
  | .noSlot => 0x18
  | .unknownHandle => 0x19
  | .malformed => 0x1E
  | .unknownRequest => 0x1F

/-- R164: the bytes of a reply: echo, result, data. -/
def Reply.bytes (r : Reply) : List Byte := r.echo :: r.result.code :: r.data

/-- The request codes of Table 10-3. -/
abbrev Code.nop : Byte := 0x00
abbrev Code.status : Byte := 0x01
abbrev Code.configure : Byte := 0x02
abbrev Code.join : Byte := 0x03
abbrev Code.leave : Byte := 0x04
abbrev Code.restart : Byte := 0x0F
abbrev Code.post : Byte := 0x10
abbrev Code.cancel : Byte := 0x11
abbrev Code.fetch : Byte := 0x20
abbrev Code.takeOutcomes : Byte := 0x21
abbrev Code.readPeer : Byte := 0x30
abbrev Code.readCounters : Byte := 0x31

/-- Table 10-6: the outcome result codes. -/
def MsgResult.code : MsgResult → Nat
  | .delivered => 1
  | .sent => 2
  | .noAck => 3
  | .peerSilent => 4
  | .cancelled => 5
  | .abandoned => 6

/-- Table 10-6: the five bytes of an outcome record. -/
def OutcomeRecord.bytes (o : OutcomeRecord) : List Byte :=
  [byte o.slot, byte o.tag, byte o.dest, byte o.result.code, byte o.attempts]

/-- Table 10-7: presence codes. -/
def Presence.code : Presence → Nat
  | .unknown => 0
  | .present => 1
  | .silent => 2

/-- The ms a timer shows: what remains, 0 when it does not run (R77). -/
def Timer.remaining : Timer → Nat
  | .running ms => ms
  | _ => 0

/-- Table 10-7: the eleven bytes of a peer record with its queue length. -/
def PeerRecord.bytes (p : PeerRecord) (queueLength : Nat) : List Byte :=
  byte p.presence.code :: twoBytes p.presenceTimer.remaining ++
    flagByte p.held :: twoBytes p.holdTimer.remaining ++
      [byte (p.epoch.isSome.toNat + 2 * p.lastAccepted.isSome.toNat), byte (p.epoch.getD 0),
        byte (p.lastAccepted.getD 0), byte p.nextTx, byte queueLength]

/-- Table 10-5: the class bit of a record fetched. -/
def MsgClass.code : MsgClass → Nat
  | .acked => 0
  | .datagram => 1

/-- Table 10-5: the bytes of a record fetched, after echo and result. -/
def Received.bytes (r : Received) : List Byte :=
  byte r.source :: byte (r.cls.code + 2 * r.broadcast.toNat) :: byte r.payload.length :: r.payload

/-- R165: the eleven counters in the order of Table 8-2, two bytes each. -/
def Counters.bytes (c : Counters) : List Byte :=
  [c.framesSent, c.framesHeard, c.crcErrors, c.framingErrors, c.malformed, c.collisions, c.duplicates,
    c.refusalsSent, c.droppedDatagrams, c.strayReplies, c.addressConflicts].flatMap twoBytes

/-- The attention mask a mask byte gives, bit 0 outcome to bit 3 conflict (section 10.3). -/
def maskOf (b : Byte) : AttnMask :=
  ⟨b.getLsbD 0, b.getLsbD 1, b.getLsbD 2, b.getLsbD 3⟩

/-- The configuration record that the eight bytes of CONFIGURE carry (Table 10-3). -/
def configOf (rate attempts retryBase beacon holdTime holdLevel resumeLevel mask : Byte) : ConfigRecord where
  rate := rate.toNat
  attemptLimit := attempts.toNat
  retryBase := retryBase.toNat
  beacon := beacon.toNat
  holdTime := holdTime.toNat
  holdLevel := holdLevel.toNat
  resumeLevel := resumeLevel.toNat
  mask := maskOf mask

/-- The ranges of Table 3-3; the resume level against the hold level of the same record (R40). -/
def ConfigRecord.inRange (c : ConfigRecord) : Bool :=
  c.rate ≤ 7 && (1 ≤ c.attemptLimit && c.attemptLimit ≤ 15) && (1 ≤ c.retryBase && c.retryBase ≤ 255) &&
    (1 ≤ c.beacon && c.beacon ≤ 50) && (1 ≤ c.holdTime && c.holdTime ≤ 255) &&
    (1 ≤ c.holdLevel && c.holdLevel ≤ 32) && c.resumeLevel < c.holdLevel

/-- A mask byte with a bit above the four reasons is out of range (R155). -/
def maskInRange (b : Byte) : Bool := b.toNat < 16

/-- R39: the beacon interval, and the join listen time, in ms. -/
def ConfigRecord.beaconMs (c : ConfigRecord) : Nat := c.beacon * 100

/-- R39: the join listen time. -/
def ConfigRecord.listenMs (c : ConfigRecord) : Nat := c.beaconMs

/-- R39: the presence timeout. -/
def ConfigRecord.presenceMs (c : ConfigRecord) : Nat := 3 * c.beaconMs

/-- R39: the hold time. -/
def ConfigRecord.holdMs (c : ConfigRecord) : Nat := c.holdTime * 10

/-- R39: the hold renewal interval. -/
def ConfigRecord.renewalMs (c : ConfigRecord) : Nat := c.holdMs / 2

/-- R113: the retry wait after `attempts` attempts, capped at eight times the retry base. -/
def ConfigRecord.retryMs (c : ConfigRecord) (attempts : Nat) : Nat :=
  min (c.retryBase * 2 ^ (attempts - 1)) (8 * c.retryBase)

end Sys2Proof.Machine
end

