-- ==== Sys2Proof/Machine/Receiver.lean ====
section
/-! DEFINITION. The line interface: the characters it sends (R1), the receiver (R3), the class of the line and
its idle period (R4), the characters of a burst (R5), and the readback of an own frame (R17). -/

namespace Sys2Proof.Machine

/-! ### Sending -/

/-- The bit times of a character on TXD (R1): start bit at space, eight data bits least significant first, stop
bit at mark. -/
def charBits (b : Byte) : List Bool := false :: (List.range 8).map b.getLsbD ++ [true]

/-- The levels of a character on the line, half bit by half bit. -/
def charLevels (b : Byte) : Levels := (charBits b).flatMap fun x => [x, x]

/-- The levels of characters sent back to back (R1). -/
def levelsOf (bytes : List Byte) : Levels := bytes.flatMap charLevels

/-- The levels of a frame on TXD (R1, R161). -/
def Frame.levels (f : Frame) : Levels := levelsOf f.bytes

/-! ### Receiving -/

/-- The data bit sampled in the middle of its bit time comes in above those before it: least significant bit
first (R3). -/
def shiftIn (byte : Byte) (bit : Bool) : Byte := BitVec.ofBool bit ++ byte.extractLsb' 1 7

/-- R3: the receiver after one half bit time at the level `mark`; `rxd` is the level before it. A character's
half bit times are counted from the change to space; the middle of bit j is where half bit time 2j + 1 begins. -/
def Receiver.next (rxd mark : Bool) : Receiver → Receiver
  | .waiting => if rxd && !mark then .receiving 1 0 else .waiting
  | .receiving cells byte =>
    if cells = 1 then (if mark then .waiting else .receiving 2 byte)
    else if Config.charCells ≤ cells + 1 then (if mark then .waiting else .broken)
    else if cells % 2 = 1 then .receiving (cells + 1) (shiftIn byte mark)
    else .receiving (cells + 1) byte
  | .broken => if mark then .waiting else .broken

/-- R3: the character that this half bit time completes: at the end of the stop bit, sampled at its middle. -/
def Receiver.completes (mark : Bool) : Receiver → Option RxChar
  | .receiving cells byte => if Config.charCells ≤ cells + 1 then some ⟨byte, mark⟩ else none
  | _ => none

/-- A character is being received, or a candidate start bit (R4). -/
def Receiver.busy : Receiver → Bool
  | .receiving _ _ => true
  | _ => false

/-- The receiver without the character it was receiving: it waits as after a noise start bit (R2). -/
def Receiver.abandon : Receiver → Receiver
  | .receiving _ _ => .waiting
  | r => r

/-- A completed character joins its burst (R5): its byte among the first 71, the count, a missing stop bit. -/
def Burst.add (b : Burst) (c : RxChar) : Burst :=
  { b with
    bytes := if b.bytes.length < Config.frameMax then b.bytes ++ [c.byte] else b.bytes
    count := b.count + 1
    faulted := b.faulted || !c.stop }

/-- R4: the line is idle while RXD is at mark and no character is being received. -/
def Line.idle (l : Line) : Bool := l.rxd && !l.receiver.busy

/-- R5: the idle period has grown longer than 1 ct. -/
def Line.over (l : Line) : Bool := l.idle && Config.charCells < l.quiet

/-- One half bit time of RXD: the receiver moves on, a completed character joins the burst, and the idle period
starts at the end of a character or at the return to mark (R4). -/
def Line.hear (l : Line) (mark : Bool) : Line where
  rxd := mark
  receiver := l.receiver.next l.rxd mark
  quiet := if mark && (l.receiver.completes mark).isNone then l.quiet + 1 else 0
  burst :=
    match l.receiver.completes mark with
    | none => l.burst
    | some c => l.burst.map fun b => b.add c

/-- The levels of a burst are heard up to its end, an idle longer than 1 ct (R5). -/
def Line.hearAll (l : Line) (rxd : Levels) : Line :=
  rxd.foldl (fun l mark => if l.over then l else l.hear mark) l

/-- Marks enough for any character to end and the line to be idle for more than 1 ct (R5). -/
def closingIdle : Levels := List.replicate (2 * Config.charCells + 1) true

/-- The line right after the end of a burst (R5): idle for just over 1 ct. -/
def Line.ended : Line where
  rxd := true
  receiver := .waiting
  quiet := Config.charCells + 1
  burst := none

/-- R31: the line is active, or becomes so at one of these levels, before an idle longer than 1 ct ends the burst. -/
def Line.activeIn (l : Line) : Levels → Bool
  | [] => !l.idle
  | mark :: rest => !l.idle || (!l.over && (l.hear mark).activeIn rest)

/-- Activity starts (R4): the burst `b` begins unless one is under way that has not ended (R5), and the levels
since are heard. With none given, RXD has gone to space; with the line active already, no start bit is supposed. A
burst held that shows more than 1 ct of idle, and whose END_OF_FRAME was not given, gives way to `b` unvalidated
(notes/assumptions 21). -/
def Line.begin (l : Line) (b : Burst) (rxd : Levels) : Line :=
  let started := if l.burst.isSome && !l.over then l else { l with quiet := 0, burst := some b }
  started.hearAll (if rxd = [] ∧ l.idle then [false] else rxd)

/-! ### Readback -/

/-- One character time of RXD while this station drives, and the character the receiver completed in it, if
any. -/
def Line.hearChar (l : Line) (rxd : Levels) : Line × Option RxChar :=
  rxd.foldl (fun p mark => (p.1.hear mark, (p.1.receiver.completes mark).or p.2)) (l, none)

/-- How the comparisons of a sent frame with its readback stand (R17). -/
inductive Readback where
  /-- All comparisons so far hold and characters remain. -/
  | holding
  /-- A comparison failed. -/
  | failed
  /-- The comparison of the last character held. -/
  | complete
  deriving DecidableEq, Repr

/-- R17: each character sent is compared, as its stop bit ends, with the one the receiver has completed, which
must be the same byte with its stop bit; the first comparison that fails ends the frame. -/
def Line.compare (l : Line) : List Byte → Levels → Line × Readback
  | [], _ => (l, .complete)
  | b :: bs, rxd =>
    let heard := l.hearChar (rxd.take Config.charCells)
    if rxd.length < Config.charCells then (heard.1, .holding)
    else if heard.2 = some ⟨b, true⟩ then heard.1.compare bs (rxd.drop Config.charCells)
    else (heard.1, .failed)

/-- DE is released (R1): an own burst in which RXD showed no activity for more than 1 ct was none (R5). -/
def Line.released (l : Line) : Line := if l.over then { l with burst := none } else l

end Sys2Proof.Machine
end

