-- ==== Sys2Proof/Machine/Ops.lean ====
section
/-! DEFINITION. The named operations every meaning is made of: reading and changing the blocks, the peer
records, the slots and the queues, and the counters. -/

namespace Sys2Proof.Machine

/-! ### Changing one block -/

def State.modLine (s : State) (f : Line → Line) : State := { s with line := f s.line }
def State.modAccess (s : State) (f : Access → Access) : State := { s with access := f s.access }
def State.modStation (s : State) (f : Station → Station) : State := { s with station := f s.station }
def State.modPeers (s : State) (f : Vector PeerRecord 30 → Vector PeerRecord 30) : State :=
  { s with peers := f s.peers }
def State.modOutbound (s : State) (f : Outbound → Outbound) : State := { s with outbound := f s.outbound }
def State.modEngine (s : State) (f : Engine → Engine) : State := { s with engine := f s.engine }
def State.modInbound (s : State) (f : Inbound → Inbound) : State := { s with inbound := f s.inbound }
def State.modOutcomes (s : State) (f : Outcomes → Outcomes) : State := { s with outcomes := f s.outcomes }
def State.modCounters (s : State) (f : Counters → Counters) : State := { s with counters := f s.counters }
def State.modLink (s : State) (f : Link → Link) : State := { s with link := f s.link }

/-! ### Counters -/

/-- R143: one more, saturating at 65535. -/
def saturatingInc (n : Nat) : Nat := if n < Config.counterMax then n + 1 else n

/-- R143: the named counter is increased by one. -/
def Counters.bump (c : Counters) : CounterName → Counters
  | .framesSent => { c with framesSent := saturatingInc c.framesSent }
  | .framesHeard => { c with framesHeard := saturatingInc c.framesHeard }
  | .crcErrors => { c with crcErrors := saturatingInc c.crcErrors }
  | .framingErrors => { c with framingErrors := saturatingInc c.framingErrors }
  | .malformed => { c with malformed := saturatingInc c.malformed }
  | .collisions => { c with collisions := saturatingInc c.collisions }
  | .duplicates => { c with duplicates := saturatingInc c.duplicates }
  | .refusalsSent => { c with refusalsSent := saturatingInc c.refusalsSent }
  | .droppedDatagrams => { c with droppedDatagrams := saturatingInc c.droppedDatagrams }
  | .strayReplies => { c with strayReplies := saturatingInc c.strayReplies }
  | .addressConflicts => { c with addressConflicts := saturatingInc c.addressConflicts }

/-- A block asks the outcome queue to count an event (R143). -/
def State.count (s : State) (k : CounterName) : State := s.modCounters (·.bump k)

/-! ### The pseudo-random generator -/

/-- The next value of the generator (R20); taking it advances `generator`. -/
def State.nextRandom (s : State) : Nat := Config.generatorValue s.generator

/-- One more value has been taken (R20). -/
def State.takeRandom (s : State) : State := { s with generator := s.generator + 1 }

/-! ### Peer records -/

/-- The record of address `a` (R61); an address without a record reads as an initial record. -/
def State.peer (s : State) (a : Nat) : PeerRecord :=
  if a = 0 then PeerRecord.initial else (s.peers[a - 1]?).getD PeerRecord.initial

/-- A whole update of the record of address `a` (R61); nothing for an address without a record. -/
def State.modPeer (s : State) (a : Nat) (f : PeerRecord → PeerRecord) : State :=
  if a = 0 then s else s.modPeers fun v => v.setIfInBounds (a - 1) (f (s.peer a))

/-! ### Slots and destination queues -/

/-- Slot `i` (R79); a number above 47 reads as a FREE slot. -/
def State.slot (s : State) (i : Nat) : Slot := (s.outbound.slots[i]?).getD ⟨0, none⟩

/-- Slot `i` changed whole. -/
def State.setSlot (s : State) (i : Nat) (x : Slot) : State :=
  s.modOutbound fun o => { o with slots := o.slots.setIfInBounds i x }

/-- The message slot `i` holds, changed; nothing for a FREE slot. -/
def State.modMessage (s : State) (i : Nat) (f : Message → Message) : State :=
  match (s.slot i).msg with
  | none => s
  | some m => s.setSlot i ⟨(s.slot i).tag, some (f m)⟩

/-- The destination queue of address `d` (R83). -/
def State.queue (s : State) (d : Nat) : List Nat :=
  if d = 0 then [] else (s.outbound.queues[d - 1]?).getD []

/-- The destination queue of address `d`, changed. -/
def State.modQueue (s : State) (d : Nat) (f : List Nat → List Nat) : State :=
  if d = 0 then s
  else s.modOutbound fun o => { o with queues := o.queues.setIfInBounds (d - 1) (f (s.queue d)) }

/-- The addresses that have a destination queue, in order (section 5.3). -/
def destinations : List Nat := List.range' 1 Config.queues

/-- Every destination queue is empty (R52, R85). -/
def State.queuesEmpty (s : State) : Bool := destinations.all fun d => (s.queue d).isEmpty

/-- The number of FREE slots (R85). -/
def State.freeSlots (s : State) : Nat := s.outbound.slots.toList.countP fun x => x.msg.isNone

/-- The lowest-numbered FREE slot (R87). -/
def State.lowestFree (s : State) : Option Nat :=
  (List.range Config.slots).find? fun i => (s.slot i).msg.isNone

/-- The tag at the slot's next allocation (R80). -/
def nextTag (tag : Nat) : Nat := if tag = 0 ∨ tag = 255 then 1 else tag + 1

/-- The result a withdraw mark gives (R116). -/
def Mark.result : Mark → MsgResult
  | .cancelled => .cancelled
  | .abandoned => .abandoned
  | .peerSilent => .peerSilent

/-- The handle of a tag and a slot number names the message of a slot that is not FREE and has that tag
(R80). -/
def State.named (s : State) (i tag : Nat) : Option Message :=
  if i < Config.slots ∧ tag ≠ 0 ∧ (s.slot i).tag = tag then (s.slot i).msg else none

end Sys2Proof.Machine
end

