-- ==== Sys2Proof/Machine/Flags.lean ====
section
/-! DEFINITION. The conditions and outputs that are functions of the state: DE (R38), TXD (R1), ATTN (R141),
the link status byte (R148), SDO (R147), the eligible heads (R98), the wants-line condition (R22), the hold
condition (R50), and H against the fill levels (R40, R126, R129). -/

namespace Sys2Proof.Machine

/-- The driver enable output (R38, Table 2-1). -/
def State.de (s : State) : Bool := s.access.state = .sending || s.access.state = .replying

/-- What the part sends on TXD (R1): the levels of the driven frame's characters; nothing (mark) otherwise. -/
def State.txd (s : State) : Levels :=
  if s.de then (s.access.frame.map Frame.levels).getD [] else []

/-- ATTN is asserted (R141): an attention reason holds with its mask bit on. -/
def State.attn (s : State) : Bool :=
  let m := s.station.config.mask
  (m.outcome && !s.outcomes.queue.isEmpty) || (m.inbound && !s.inbound.records.isEmpty) ||
    (m.state && s.station.stateChange) || (m.conflict && s.station.conflict)

/-- The link status byte (R148, Table 10-2). -/
def State.statusByte (s : State) : Byte :=
  (((BitVec.ofBool s.link.reply.isSome ++ BitVec.ofBool s.link.discarded) ++ BitVec.ofBool s.attn) ++ 0#2) ++
    BitVec.ofNat 3 s.station.state.code

/-- The first `n` bits of the transaction on SDO (R146, R147): the status byte, the noted reply, then zeros, each
byte most significant bit first. -/
def Transaction.sent (t : Transaction) (n : Nat) : Bits :=
  let reply := (t.noted.map Reply.bytes).getD []
  ((t.status :: reply).flatMap bitsOf ++ List.replicate n false).take n

/-- Byte 0 has completed (R146, R151). -/
def Transaction.clocked (t : Transaction) : Bool := 8 ≤ t.sdi.length

/-- The line is idle (R4). -/
def State.lineIdle (s : State) : Bool := s.line.idle

/-- The station is in ACTIVE or LEAVING: it sends messages and takes frames (R98, R119). -/
def State.inService (s : State) : Bool := s.station.state = .active || s.station.state = .leaving

/-- The head of queue `d` is QUEUED (R98). -/
def State.headQueued (s : State) (d : Nat) : Bool :=
  match s.queue d with
  | [] => false
  | i :: _ =>
    match (s.slot i).msg with
    | some m => m.state = .queued
    | none => false

/-- The head of queue `d` is eligible (R98). -/
def State.eligible (s : State) (d : Nat) : Bool :=
  s.inService && s.headQueued d && (d = Config.broadcast || !(s.peer d).held)

/-- The notice set holds a notice (R48). -/
def NoticeSet.any (n : NoticeSet) : Bool := n.join || n.beacon || n.hold || n.leave

/-- The wants-line condition (R22). -/
def State.wantsLine (s : State) : Bool :=
  s.station.notices.any || destinations.any fun d => s.eligible d

/-- The hold condition (R50). -/
def State.holdCondition (s : State) : Bool :=
  s.inService && (s.inbound.h != s.station.lastSentH || (s.inbound.h && s.station.renewal = .runOut))

/-- The first notice present in the order LEAVE, JOIN, HOLD, BEACON (R48). -/
def NoticeSet.first (n : NoticeSet) : Option Reason :=
  if n.leave then some .leave
  else if n.join then some .join
  else if n.hold then some .hold
  else if n.beacon then some .beacon
  else none

/-- The destinations in the order of the round-robin scan: from the one after last served, after 31 comes 1,
ending with last served (R101). -/
def scanOrder (lastServed : Nat) : List Nat :=
  (List.range Config.queues).map fun k => (lastServed + k) % Config.queues + 1

/-- The destination the round-robin scan names (R101). -/
def State.scan (s : State) : Option Nat := (scanOrder s.engine.lastServed).find? fun d => s.eligible d

/-- H re-evaluated at an accepted CONFIGURE (R40). -/
def holdAt (levels : ConfigRecord) (count : Nat) (h : Bool) : Bool :=
  if levels.holdLevel ≤ count then true
  else if count ≤ levels.resumeLevel then false
  else h

/-- H after an append (R126). -/
def holdAfterAppend (levels : ConfigRecord) (count : Nat) (h : Bool) : Bool :=
  if levels.holdLevel ≤ count then true else h

/-- H after a FETCH (R129). -/
def holdAfterFetch (levels : ConfigRecord) (count : Nat) (h : Bool) : Bool :=
  if count ≤ levels.resumeLevel then false else h

/-- The draw range's exponent: k is the smaller of n + 2 and 8 (R25). -/
def drawBits (n : Nat) : Nat := min (n + 2) 8

/-- A draw made from a generator value: 0 to 2^k − 1 slots (R25). -/
def drawOf (n value : Nat) : Nat := value % 2 ^ drawBits n

/-- The epoch made from a generator value (R43): any of 0..15 at first, then any other than the previous. -/
def epochOf (previous : Option Nat) (value : Nat) : Nat :=
  match previous with
  | none => value % 16
  | some p => if value % 15 < p then value % 15 else value % 15 + 1

end Sys2Proof.Machine
end

