-- ==== Sys2Proof/Machine/Resolution.lean ====
section
/-! DEFINITION. Resolution of messages (R92, R93, R137), withdraw marks (R90), a peer made SILENT (R68), and
the settlement of a reply window (R108 to R111). -/

namespace Sys2Proof.Machine

/-- In LEAVING with every destination queue empty the LEAVE notice is placed (R52); the station controller
sees it at the resolution that empties the last queue (R117, notes/assumptions 16). -/
def State.watchQueues (s : State) : State :=
  if s.station.state = .leaving ∧ s.queuesEmpty then
    s.modStation fun st => { st with notices := { st.notices with leave := true } }
  else s

/-- The slot leaves its destination queue (step 2 of R92). -/
def State.dequeue (s : State) (d i : Nat) : State := s.modQueue d fun q => q.filter fun j => j ≠ i

/-- Steps 3 and 4 of R92 with R137: the outcome enters the outcome queue and the slot becomes FREE, or the
slot becomes DONE at the tail of the waiting-outcome list. -/
def State.handOutcome (s : State) (i : Nat) (m : Message) (r : MsgResult) : State :=
  let tag := (s.slot i).tag
  if s.outcomes.queue.length < Config.outcomeRoom then
    (s.modOutcomes fun o => { o with queue := o.queue ++ [⟨i, tag, m.dest, r, m.attempts⟩] }).setSlot i ⟨tag, none⟩
  else
    (s.modOutcomes fun o => { o with waiting := o.waiting ++ [i] }).setSlot i
      ⟨tag, some { m with state := .done r }⟩

/-- R92: the message in slot `i` is resolved with result `r`; an order that finds the slot DONE or FREE acts
on neither. -/
def State.resolve (s : State) (i : Nat) (r : MsgResult) : State :=
  match (s.slot i).msg with
  | none => s
  | some m =>
    match m.state with
    | .done _ => s
    | _ => ((s.dequeue m.dest i).handOutcome i m r).watchQueues

/-- R93: the message in slot `i` is resolved if it is QUEUED or in RETRY_WAIT. -/
def State.resolveWaiting (r : MsgResult) (s : State) (i : Nat) : State :=
  match (s.slot i).msg with
  | none => s
  | some m =>
    match m.state with
    | .queued => s.resolve i r
    | .retryWait _ => s.resolve i r
    | _ => s

/-- R90: a message ON_LINE or AWAIT_REPLY is given the mark if it has none. -/
def State.setMark (k : Mark) (s : State) (i : Nat) : State :=
  s.modMessage i fun m =>
    match m.state with
    | .onLine none => { m with state := .onLine (some k) }
    | .awaitReply none => { m with state := .awaitReply (some k) }
    | _ => m

/-- R93: every QUEUED and RETRY_WAIT message of queue `d` is resolved, from head to tail. -/
def State.resolveQueue (s : State) (d : Nat) (r : MsgResult) : State :=
  (s.queue d).foldl (State.resolveWaiting r) s

/-- R93: a message of queue `d` that is ON_LINE or AWAIT_REPLY is marked as R90 gives. -/
def State.markQueue (s : State) (d : Nat) (k : Mark) : State := (s.queue d).foldl (State.setMark k) s

/-- R93: every QUEUED and RETRY_WAIT message is resolved ABANDONED, destination 1 first and the broadcast
queue last; then a message ON_LINE or AWAIT_REPLY is marked. -/
def State.abandonAll (s : State) : State :=
  let resolved := destinations.foldl (fun s d => s.resolveQueue d .abandoned) s
  destinations.foldl (fun s d => s.markQueue d .abandoned) resolved

/-- R68: presence of `a` is set to SILENT; its waiting messages are resolved PEER_SILENT, head first, and one
in flight is marked. -/
def State.makeSilent (s : State) (a : Nat) : State :=
  let silent := s.modPeer a fun p => { p with presence := .silent, presenceTimer := .stopped }
  (silent.resolveQueue a .peerSilent).markQueue a .peerSilent

/-- R73: a hold order: HELD with a fresh hold timer. -/
def State.holdPeer (s : State) (a : Nat) : State :=
  s.modPeer a fun p => { p with held := true, holdTimer := .running s.station.config.holdMs }

/-- What closes a reply window (section 6.5). -/
inductive WindowResult where
  | ack | refuse | noReply
  deriving DecidableEq, Repr

/-- R110 from step 2: the attempt is restored, and the message is resolved with its mark or returns to QUEUED
where it stands. -/
def State.requeueRefused (s : State) (i : Nat) (mark : Option Mark) : State :=
  let restored := s.modMessage i fun m => { m with attempts := m.attempts - 1 }
  match mark with
  | some k => restored.resolve i k.result
  | none => restored.modMessage i fun m => { m with state := .queued }

/-- R111: the first case that applies of mark, attempt limit (with the exhaustion of R69) and retry wait. -/
def State.settleNoReply (s : State) (i : Nat) (m : Message) (mark : Option Mark) : State :=
  match mark with
  | some k => s.resolve i k.result
  | none =>
    if m.attempts = s.station.config.attemptLimit then (s.resolve i .noAck).makeSilent m.dest
    else s.modMessage i fun m => { m with state := .retryWait (s.station.config.retryMs m.attempts) }

/-- Table 6-2: the message `m` in AWAIT_REPLY in slot `i` is settled by the window's result. -/
def State.settleMessage (s : State) (i : Nat) (m : Message) (mark : Option Mark) : WindowResult → State
  | .ack => s.resolve i .delivered
  | .refuse => (s.holdPeer m.dest).requeueRefused i mark
  | .noReply => s.settleNoReply i m mark

/-- The item in flight becomes none (R97). -/
def State.clearInFlight (s : State) : State := s.modEngine fun e => { e with inFlight := .none }

/-- R108: the close of the reply window settles the message in flight; the item in flight is then none. -/
def State.settleWindow (s : State) (w : WindowResult) : State :=
  match s.engine.inFlight with
  | .message i =>
    match (s.slot i).msg with
    | none => s.clearInFlight
    | some m =>
      match m.state with
      | .awaitReply mark => (s.settleMessage i m mark w).clearInFlight
      | _ => s.clearInFlight
  | _ => s.clearInFlight

/-- R105: at a collision a message with a mark is resolved with it, one without returns to QUEUED where it
stands; a notice is left to the notice set. The item in flight is then none. -/
def State.withdrawInFlight (s : State) : State :=
  match s.engine.inFlight with
  | .message i =>
    match (s.slot i).msg with
    | none => s.clearInFlight
    | some m =>
      match m.state with
      | .onLine (some k) => (s.resolve i k.result).clearInFlight
      | .onLine none => (s.modMessage i fun m => { m with state := .queued }).clearInFlight
      | _ => s.clearInFlight
  | _ => s.clearInFlight

/-- R106, R107: the frame of the message in flight is complete: one attempt more; a DATAGRAM is resolved SENT
and nothing is in flight; a DATA message passes to AWAIT_REPLY with its mark kept. A notice is in flight no
more. -/
def State.completeInFlight (s : State) : State :=
  match s.engine.inFlight with
  | .message i =>
    match (s.slot i).msg with
    | none => s.clearInFlight
    | some m =>
      match m.state with
      | .onLine mark =>
        let counted := s.modMessage i fun m => { m with attempts := m.attempts + 1 }
        match m.cls with
        | .datagram => (counted.resolve i .sent).clearInFlight
        | .acked => counted.modMessage i fun m => { m with state := .awaitReply mark }
      | _ => s.clearInFlight
  | _ => s.clearInFlight

end Sys2Proof.Machine
end

