-- ==== Sys2Proof/Machine/StationOps.lean ====
section
/-! DEFINITION. What the station controller and the access controller do that several commands share: the
hold condition (R50), a completed frame (R48), contending (R22, R30), OFF (R21), the entry to UNJOINED (R53)
and the line fault (R36, R55). -/

namespace Sys2Proof.Machine

/-- R50: a HOLD notice is in the set exactly while the hold condition holds. -/
def State.reevalHold (s : State) : State :=
  s.modStation fun st => { st with notices := { st.notices with hold := s.holdCondition } }

/-- R125: H takes a value; a change is told to the station controller, which re-evaluates its hold condition. -/
def State.setH (s : State) (h : Bool) : State :=
  if s.inbound.h = h then s else (s.modInbound fun b => { b with h := h }).reevalHold

/-- A notice is placed (R48). -/
def NoticeSet.place (n : NoticeSet) : Reason → NoticeSet
  | .join => { n with join := true }
  | .beacon => { n with beacon := true }
  | .hold => { n with hold := true }
  | .leave => { n with leave := true }

/-- A completed JOIN or LEAVE notice leaves the set (step 3 of R48). -/
def NoticeSet.completed (n : NoticeSet) : FrameKind → NoticeSet
  | .notice .join => { n with join := false }
  | .notice .leave => { n with leave := false }
  | _ => n

/-- A notice is placed in the station's notice set (R48). -/
def State.placeNotice (s : State) (r : Reason) : State :=
  s.modStation fun st => { st with notices := st.notices.place r }

/-- The state-change flag is set (R57). -/
def State.flagChange (s : State) : State := s.modStation fun st => { st with stateChange := true }

/-- R48, steps 1 to 5, at the completion of a frame of kind `kind` that carried `h`. -/
def State.frameSent (s : State) (kind : FrameKind) (h : Bool) : State :=
  (s.modStation fun st =>
    { st with
      lastSentH := h
      beacon := .running st.config.beaconMs
      renewal := if s.inbound.h then .running st.config.renewalMs else st.renewal
      notices := { st.notices.completed kind with beacon := false } }).reevalHold

/-- The station enters ACTIVE with the state-change flag set and re-evaluates its hold condition (R45, R50,
R56). -/
def State.enterActive (s : State) : State :=
  (s.modStation fun st => { st with state := .active, stateChange := true }).reevalHold

/-- The access controller goes to GAP if the wants-line condition is true, to IDLE if not (R30, R32, R34). -/
def State.contendOrIdle (s : State) : State :=
  s.modAccess fun a => { a with state := if s.wantsLine then .gap else .idle }

/-- R22: an IDLE access controller acts on the wants-line condition: GAP on an idle line, DEFER on an active
one. -/
def State.applyWants (s : State) : State :=
  if s.access.state = .idle ∧ s.wantsLine then
    s.modAccess fun a => { a with state := if s.lineIdle then .gap else .defer }
  else s

/-- R32: the reply window closes with a result; where the access controller goes is its caller's. -/
def State.closeWindow (s : State) (w : WindowResult) : State :=
  (s.settleWindow w).modAccess fun a => { a with occupied := false }

/-- Step 1 of R21 and R36: an open reply window is closed with no reply. -/
def State.closeOpenWindow (s : State) : State :=
  if s.access.state = .awaitReply then s.closeWindow .noReply else s

/-- R21: the access controller enters OFF. -/
def State.enterOff (s : State) : State :=
  let closed := s.closeOpenWindow
  closed.modAccess fun _ =>
    { Access.reset with recovery := decide (closed.station.state = .lineFault) }

/-- R21: the access controller leaves OFF for IDLE with n at 0, and applies R22 at once; the stuck-line count
runs if a burst is under way (R35). -/
def State.leaveOff (s : State) : State :=
  (s.modAccess fun _ => { Access.reset with state := .idle, stuck := s.line.burst.isSome }).applyWants

/-- Both timers of a peer record stop (R62). -/
def PeerRecord.stopTimers (p : PeerRecord) : PeerRecord :=
  { p with presenceTimer := .stopped, holdTimer := .stopped }

/-- R53, R62: every entry to UNJOINED. -/
def State.enterUnjoined (s : State) : State :=
  ((s.modStation fun st =>
      { st with
        state := .unjoined
        notices := NoticeSet.empty
        listen := .stopped
        beacon := .stopped
        leaveMode := none
        leavePending := false }).modPeers
    fun v => v.map PeerRecord.stopTimers).enterOff

/-- R36 and R55: the access controller's order for LINE_FAULT with its reason. In UNJOINED and LINE_FAULT the
access controller is OFF and gives no such order. A fault in ACTIVE sets the state-change flag (R57) also where
a LEAVE follows at the same instant, of which R54 says that the order sets it not (notes/assumptions 19). -/
def State.lineFault (s : State) (reason : FaultReason) : State :=
  let closed := s.closeOpenWindow
  let blamed := closed.modStation fun st => { st with faultReason := reason }
  match s.station.state with
  | .active =>
    (blamed.modStation fun st =>
      { st with state := .lineFault, notices := NoticeSet.empty, stateChange := true }).enterOff
  | .joining => blamed.enterUnjoined.flagChange
  | .leaving => blamed.abandonAll.enterUnjoined.flagChange
  | .unjoined => s
  | .lineFault => s

end Sys2Proof.Machine
end

