-- ==== Sys2Proof/Machine/Access.lean ====
section
/-! DEFINITION. The access-control commands: ACTIVITY_START, the gap and the draw, the line win and the pick,
the end of a contended frame, replies, the reply window, the stuck line and the recovery (Chapters 2 and 6). -/

namespace Sys2Proof.Machine

/-! ### Building and driving a frame -/

/-- A NOTICE frame (R10, R7). -/
def State.noticeFrame (s : State) (r : Reason) : Frame where
  kind := .notice r
  dest := Config.broadcast
  h := s.inbound.h
  source := s.station.address
  epoch := s.station.epoch
  seq := 0
  payload := []

/-- A DATA or DATAGRAM frame (R8, R7). -/
def State.messageFrame (s : State) (m : Message) : Frame where
  kind := match m.cls with
    | .acked => .data
    | .datagram => .datagram
  dest := m.dest
  h := s.inbound.h
  source := s.station.address
  epoch := s.station.epoch
  seq := match m.cls with
    | .acked => m.seq.getD 0
    | .datagram => 0
  payload := m.payload

/-- The ACK or REFUSE that answers the DATA frame `f` (R9, R7). -/
def State.replyFrame (s : State) (kind : FrameKind) (f : Frame) : Frame where
  kind := kind
  dest := f.source
  h := s.inbound.h
  source := s.station.address
  epoch := s.station.epoch
  seq := f.seq
  payload := []

/-- DE is asserted and the first start bit begins (R27, R33): the line is active, the burst is the station's
own (R18) and the stuck-line count takes it in (R35). What RXD does while the station drives comes with the command
that ends the frame (notes/assumptions 9). -/
def State.drive (s : State) (st : AccessState) (f : Frame) : State :=
  (s.modLine fun l =>
    { l with burst := some { l.burst.getD ⟨true, false, [], 0, false⟩ with own := true } }).modAccess fun a =>
    { a with state := st, frame := some f, draw := none, stuck := true }

/-- DE is released (R1, R17), with the line as the readback has left it. Where a failed readback has shown only mark for
more than 1 ct no burst is held (R5), and the stuck-line count, which took the frame in as it began (R35), runs on to
the next end of frame: the spec leaves open whether that frame was a burst, which R28 supposes (notes/assumptions 9). -/
def State.endDrive (s : State) (l : Line) : State :=
  (s.modLine fun _ => l.released).modAccess fun a => { a with frame := none }

/-- The line interface reports the idle period as it reaches `ct` (R4). -/
def State.reportIdle (s : State) (ct : Nat) : State :=
  s.modLine fun l => if l.idle then { l with quiet := max l.quiet (Config.charCells * ct) } else l

/-! ### Line activity -/

/-- R4, R24, R26, R31, R35: activity starts. A burst begins unless one is under way (while the station drives, its
own is); GAP and DRAW go to DEFER with the draw discarded; an open reply window is occupied; the stuck-line count
runs except in OFF. -/
def State.beginActivity (s : State) (rxd : Levels) : State :=
  let burst := Burst.mk false (s.station.state = .unjoined) [] 0 false
  (s.modLine fun l => if s.de then l else l.begin burst rxd).modAccess fun a =>
    match a.state with
    | .off => a
    | .gap => { a with state := .defer, draw := none, stuck := true }
    | .draw => { a with state := .defer, draw := none, stuck := true }
    | .awaitReply => { a with occupied := true, stuck := true }
    | _ => { a with stuck := true }

/-- ACTIVITY_START (R4). -/
def execActivityStart (s : State) (rxd : Levels := []) : Host.Outcome State Fault Refusal :=
  .next (s.beginActivity rxd)

/-! ### The gap, the draw and the win -/

/-- R24, R25: the idle period reaches 6 ct in GAP; a fresh draw is taken from n as it stands. -/
def State.completeGap (s : State) : State :=
  ((s.reportIdle Config.accessGap).takeRandom).modAccess fun a =>
    { a with state := .draw, draw := some (drawOf a.n s.nextRandom) }

/-- ACCESS_GAP_COMPLETE (R24): outside GAP no gap is counted. -/
def execAccessGapComplete (s : State) : Host.Outcome State Fault Refusal :=
  .next (if s.access.state = .gap then s.completeGap else s)

/-- R100: what the pick names. -/
inductive Pick where
  | notice (reason : Reason)
  | message (dest slot : Nat) (msg : Message)
  | nothing
  deriving DecidableEq, Repr

/-- R100, R101: the first pending notice, else the head the round-robin scan finds, else nothing. -/
def State.pick (s : State) : Pick :=
  match s.station.notices.first with
  | some r => .notice r
  | none =>
    match s.scan with
    | none => .nothing
    | some d =>
      match s.queue d with
      | [] => .nothing
      | i :: _ =>
        match (s.slot i).msg with
        | none => .nothing
        | some m => .message d i m

/-- R103: an ACKED message without a sequence takes the destination's next tx sequence. -/
def State.sequenced (s : State) (m : Message) : Message :=
  if m.cls = .acked ∧ m.seq = none then { m with seq := some (s.peer m.dest).nextTx } else m

/-- R75, R103: that value then advances by one modulo 256. -/
def State.advanceTx (s : State) (m : Message) : State :=
  if m.cls = .acked ∧ m.seq = none then
    s.modPeer m.dest fun p => { p with nextTx := (p.nextTx + 1) % 256 }
  else s

/-- R102: the picked message takes its sequence, becomes the item in flight and ON_LINE; its destination is the
last served (R101). -/
def State.takeMessage (s : State) (d i : Nat) (m : Message) : State :=
  ((s.advanceTx m).setSlot i ⟨(s.slot i).tag, some { s.sequenced m with state := .onLine none }⟩).modEngine
    fun _ => ⟨d, .message i⟩

/-- R27: the pick's frame is driven, or the access controller goes to IDLE and applies R22. -/
def State.win (s : State) : State :=
  match s.pick with
  | .notice r =>
    (s.modEngine fun e => { e with inFlight := .notice r }).drive .sending (s.noticeFrame r)
  | .message d i m => (s.takeMessage d i m).drive .sending (s.messageFrame (s.sequenced m))
  | .nothing => (s.modAccess fun a => { a with state := .idle, draw := none }).applyWants

/-- LINE_WIN (R26, R27): the draw of d slots completes as the idle period reaches 6 + 2d ct. -/
def execLineWin (s : State) : Host.Outcome State Fault Refusal :=
  .next
    (if s.access.state = .draw then
      (s.reportIdle (Config.accessGap + Config.backoffSlot * s.access.draw.getD 0)).win
    else s)

/-! ### The end of a contended frame -/

/-- What the station controller does at a completed JOIN or LEAVE notice (R45, R52, R54). -/
def State.noticeCompleted (s : State) (kind : FrameKind) : State :=
  match kind with
  | .notice .join =>
    if s.station.state = .joining then
      if s.station.leavePending then s.enterUnjoined.flagChange else s.enterActive
    else s
  | .notice .leave =>
    if s.station.state = .leaving then s.enterUnjoined.flagChange else s
  | _ => s

/-- Step 5 of R30: AWAIT_REPLY after a DATA frame, else GAP or IDLE; OFF stays where step 4 led there. -/
def State.afterContended (s : State) (kind : FrameKind) : State :=
  if s.access.state = .off then s
  else if kind = .data then s.modAccess fun a => { a with state := .awaitReply, occupied := false }
  else s.contendOrIdle

/-- R30: the contended frame `f` is complete. -/
def State.completeFrame (s : State) (l : Line) (f : Frame) : State :=
  let released := (s.endDrive l).modAccess fun a => { a with n := 0 }
  let reported := (released.count .framesSent).frameSent f.kind f.h
  (reported.completeInFlight.noticeCompleted f.kind).afterContended f.kind

/-- FRAME_COMPLETE (R17, R30): taken when the readback of every character of the driven frame holds. -/
def execFrameComplete (rxd : Levels) (s : State) : Host.Outcome State Fault Refusal :=
  .next
    (match s.access.state, s.access.frame with
    | .sending, some f =>
      let heard := s.line.compare f.bytes rxd
      if heard.2 = .complete then s.completeFrame heard.1 f else s
    | _, _ => s)

/-- R28, R29: the contended frame is withdrawn; n grows and the access controller defers, or the sixteenth
collision in a row orders LINE_FAULT. A leave pending on the JOIN notice ends the join (R54). -/
def State.collide (s : State) (l : Line) : State :=
  let withdrawn :=
    (((s.endDrive l).modAccess fun a => { a with state := .defer }).count .collisions).withdrawInFlight
  if Config.collisionLimit ≤ s.access.n then
    (withdrawn.modAccess fun a => { a with n := 0 }).lineFault .collisions
  else
    let deferred := withdrawn.modAccess fun a => { a with n := a.n + 1 }
    if s.station.state = .joining ∧ s.station.leavePending then deferred.enterUnjoined.flagChange
    else deferred

/-- COLLISION (R17, R28): taken when a comparison of the driven contended frame failed. -/
def execCollision (rxd : Levels) (s : State) : Host.Outcome State Fault Refusal :=
  .next
    (match s.access.state, s.access.frame with
    | .sending, some f =>
      let heard := s.line.compare f.bytes rxd
      if heard.2 = .failed then s.collide heard.1 else s
    | _, _ => s)

/-! ### Replies -/

/-- REPLY_GAP (R33): at 2 ct a pending reply is driven from IDLE, DEFER, GAP or DRAW. -/
def execReplyGap (s : State) : Host.Outcome State Fault Refusal :=
  .next
    (match s.access.reply with
    | none => s
    | some f =>
      if s.access.state = .idle ∨ s.access.state = .defer ∨ s.access.state = .gap ∨ s.access.state = .draw then
        (s.modAccess fun a => { a with reply := none }).drive .replying f
      else s)

/-- R34: a reply is complete; n is left as it was. -/
def State.completeReply (s : State) (l : Line) (f : Frame) : State :=
  (((s.endDrive l).count .framesSent).frameSent f.kind f.h).contendOrIdle

/-- REPLY_COMPLETE (R34). -/
def execReplyComplete (rxd : Levels) (s : State) : Host.Outcome State Fault Refusal :=
  .next
    (match s.access.state, s.access.frame with
    | .replying, some f =>
      let heard := s.line.compare f.bytes rxd
      if heard.2 = .complete then s.completeReply heard.1 f else s
    | _, _ => s)

/-- R34: a reply collides: it is abandoned, and the access controller defers with n as it was. -/
def State.abandonReply (s : State) (l : Line) : State :=
  ((s.endDrive l).modAccess fun a => { a with state := .defer }).count .collisions

/-- REPLY_COLLISION (R34). -/
def execReplyCollision (rxd : Levels) (s : State) : Host.Outcome State Fault Refusal :=
  .next
    (match s.access.state, s.access.frame with
    | .replying, some f =>
      let heard := s.line.compare f.bytes rxd
      if heard.2 = .failed then s.abandonReply heard.1 else s
    | _, _ => s)

/-- REPLY_WINDOW_TIMEOUT (R31, R32): the window stayed idle to 4 ct. -/
def execReplyWindowTimeout (s : State) : Host.Outcome State Fault Refusal :=
  .next
    (if s.access.state = .awaitReply ∧ !s.access.occupied then
      ((s.reportIdle Config.replyWindow).closeWindow .noReply).contendOrIdle
    else s)

/-! ### Line fault -/

/-- STUCK_LINE (R35): the count that runs reaches 200 ct; SENDING, REPLYING and OFF never reach it. -/
def execStuckLine (s : State) : Host.Outcome State Fault Refusal :=
  .next
    (if s.access.stuck ∧ s.access.state ≠ .off ∧ s.de = false then s.lineFault .lineStuck else s)

/-- LINE_QUIET (R37, R56): 64 ct of idle in LINE_FAULT end the fault. -/
def execLineQuiet (s : State) : Host.Outcome State Fault Refusal :=
  .next
    (if s.station.state = .lineFault ∧ s.access.recovery ∧ s.lineIdle then
      (((s.reportIdle Config.recoveryQuiet).placeNotice .join).enterActive).leaveOff
    else s)

end Sys2Proof.Machine
end

