-- ==== Sys2Proof/Machine/Requests.lean ====
section
/-! DEFINITION. What each request does at its owning block and what it answers: STATUS, CONFIGURE, JOIN, LEAVE
(Chapter 3), POST, CANCEL (Chapter 5), FETCH (Chapter 7), TAKE OUTCOMES, READ COUNTERS (Chapter 8) and READ
PEER (Chapter 4). -/

namespace Sys2Proof.Machine

/-- A request carried out at its owning block: the state it leaves, its result and its reply data (R152). -/
structure Answer where
  state : State
  result : ReplyResult
  data : List Byte

/-- An answer of two bytes that changes nothing (R164). -/
def State.unchanged (s : State) (r : ReplyResult) : Answer := ⟨s, r, []⟩

/-! ### Station controller -/

/-- The ten data bytes of a STATUS reply (R156, Table 10-5). -/
def State.summary (s : State) : List Byte :=
  [byte s.station.state.code, byte s.station.faultReason.code, flagByte s.station.stateChange,
    flagByte s.station.conflict, flagByte s.inbound.h, byte s.inbound.records.length,
    byte s.outcomes.queue.length, byte s.freeSlots, byte s.station.address, byte s.station.epoch]

/-- R156: STATUS replies with the summary and clears both flags as one action. -/
def answerStatus (s : State) : Answer :=
  ⟨s.modStation fun st => { st with stateChange := false, conflict := false }, .ok, s.summary⟩

/-- R2: a new rate code takes effect at once: a character being received is abandoned, and the receiver waits as
after a noise start bit. -/
def State.changeRate (s : State) (rate : Nat) : State :=
  if rate = s.station.config.rate then s else s.modLine fun l => { l with receiver := l.receiver.abandon }

/-- R40: CONFIGURE replaces the whole record in UNJOINED when every field is in range, and H is re-evaluated. -/
def answerConfigure (rate attempts retryBase beacon holdTime holdLevel resumeLevel mask : Byte)
    (s : State) : Answer :=
  let record := configOf rate attempts retryBase beacon holdTime holdLevel resumeLevel mask
  if s.station.state ≠ .unjoined then s.unchanged .wrongState
  else if record.inRange && maskInRange mask then
    ⟨((s.changeRate record.rate).modStation fun st => { st with config := record }).setH
        (holdAt record s.inbound.records.length s.inbound.h), .accepted, []⟩
  else s.unchanged .badParameter

/-- R43: a new epoch is drawn; it is the previous epoch of the next JOIN. -/
def State.drawEpoch (s : State) : State :=
  let epoch := epochOf s.station.prevEpoch s.nextRandom
  s.takeRandom.modStation fun st => { st with epoch := epoch, prevEpoch := some epoch }

/-- R42, R6: the steps of an accepted JOIN; a burst under way will not be a heard frame. -/
def State.startJoin (s : State) : State :=
  let cleared := s.modPeers fun _ => Vector.replicate 30 PeerRecord.initial
  let joining := cleared.drawEpoch.modStation fun st =>
    { st with
      faultReason := .none
      beacon := .stopped
      renewal := .runOut
      listen := .running st.config.listenMs
      state := .joining }
  (joining.modLine fun l => { l with burst := l.burst.map fun b => { b with ignored := true } }).leaveOff

/-- R42: JOIN. -/
def answerJoin (s : State) : Answer :=
  if s.station.state ≠ .unjoined then s.unchanged .wrongState
  else if s.station.address = 0 ∨ s.station.address = 31 then s.unchanged .badAddress
  else ⟨s.startJoin, .accepted, []⟩

/-- The mode byte of LEAVE (Table 10-3). -/
def leaveModeOf (b : Byte) : Option LeaveMode :=
  if b = 0 then some .drain else if b = 1 then some .abandon else none

/-- R51: a leave from ACTIVE. -/
def State.startLeave (s : State) (mode : LeaveMode) : State :=
  let leaving := (s.modStation fun st => { st with state := .leaving, leaveMode := some mode }).reevalHold
  let dealt := match mode with
    | .drain => leaving
    | .abandon => leaving.abandonAll
  dealt.watchQueues.applyWants

/-- R54: a second LEAVE: ABANDON changes a DRAIN, anything else changes nothing. -/
def State.changeLeave (s : State) (mode : LeaveMode) : State :=
  if mode = .abandon ∧ s.station.leaveMode = some .drain then
    ((s.modStation fun st => { st with leaveMode := some .abandon }).abandonAll).applyWants
  else s

/-- R54: LEAVE in JOINING: at once, or when the JOIN notice on the line ends. -/
def State.leaveJoining (s : State) : State :=
  if s.access.state = .sending then s.modStation fun st => { st with leavePending := true }
  else s.enterUnjoined

/-- R51, R54, R155: LEAVE; the mode is checked before the station state. -/
def answerLeave (mode : Byte) (s : State) : Answer :=
  match leaveModeOf mode with
  | none => s.unchanged .badParameter
  | some m =>
    match s.station.state with
    | .unjoined => s.unchanged .wrongState
    | .joining => ⟨s.leaveJoining, .accepted, []⟩
    | .active => ⟨s.startLeave m, .accepted, []⟩
    | .leaving => ⟨s.changeLeave m, .accepted, []⟩
    | .lineFault => ⟨s.abandonAll.enterUnjoined, .accepted, []⟩

/-! ### Outbound store -/

/-- R87: the message takes slot `i` with its next tag and joins the tail of its queue; an IDLE access
controller acts on a head that has become eligible (R22). -/
def State.allocate (s : State) (i : Nat) (m : Message) : State :=
  ((s.setSlot i ⟨nextTag (s.slot i).tag, some m⟩).modQueue m.dest fun q => q ++ [i]).applyWants

/-- R86: the result of the first check of steps 1 to 4 that fails. -/
def State.postRefusal (s : State) (dest cls length : Nat) : Option ReplyResult :=
  if dest = 0 ∨ 31 < dest ∨ dest = s.station.address then some .badDest
  else if Config.payloadMax < length then some .tooLong
  else if 1 < cls ∨ (cls = 0 ∧ dest = Config.broadcast) then some .badClass
  else if dest ≠ Config.broadcast ∧ (s.peer dest).presence = .silent then some .peerSilent
  else none

/-- R87: the message record an accepted POST writes. -/
def newMessage (dest cls : Nat) (payload : List Byte) : Message where
  dest := dest
  cls := if cls = 0 then .acked else .datagram
  payload := payload
  attempts := 0
  seq := none
  state := .queued

/-- R86, R87, R157: POST; the payload has the length its length byte gives, or that is above 64. -/
def answerPost (dest cls length : Byte) (payload : List Byte) (s : State) : Answer :=
  if s.station.state ≠ .active ∧ s.station.state ≠ .lineFault then s.unchanged .notActive
  else
    match s.postRefusal dest.toNat cls.toNat length.toNat with
    | some r => s.unchanged r
    | none =>
      match s.lowestFree with
      | none => s.unchanged .noSlot
      | some i =>
        ⟨s.allocate i (newMessage dest.toNat cls.toNat payload), .ok,
          [byte i, byte (nextTag (s.slot i).tag)]⟩

/-- R154: a POST with fewer payload bytes than its length byte gives, when that is 0..64, is MALFORMED; with
more, the first ones are the payload. -/
def answerPostBytes (dest cls length : Byte) (payload : List Byte) (s : State) : Answer :=
  if length.toNat ≤ Config.payloadMax ∧ payload.length < length.toNat then s.unchanged .malformed
  else answerPost dest cls length (payload.take length.toNat) s

/-- R89: CANCEL. -/
def answerCancel (slot tag : Byte) (s : State) : Answer :=
  match s.named slot.toNat tag.toNat with
  | none => s.unchanged .unknownHandle
  | some m =>
    match m.state with
    | .done _ => s.unchanged .finished
    | .queued => ⟨(s.resolve slot.toNat .cancelled).applyWants, .cancelled, []⟩
    | .retryWait _ => ⟨(s.resolve slot.toNat .cancelled).applyWants, .cancelled, []⟩
    | .onLine _ => ⟨s.setMark .cancelled slot.toNat, .pending, []⟩
    | .awaitReply _ => ⟨s.setMark .cancelled slot.toNat, .pending, []⟩

/-! ### Inbound store -/

/-- R128, R129: FETCH removes the oldest record and re-evaluates H; a HOLD notice it places is acted on (R22). -/
def answerFetch (s : State) : Answer :=
  match s.inbound.records with
  | [] => s.unchanged .empty
  | r :: rest =>
    let removed := s.modInbound fun b => { b with records := rest }
    ⟨(removed.setH (holdAfterFetch s.station.config rest.length s.inbound.h)).applyWants, .ok, r.bytes⟩

/-! ### Outcome queue -/

/-- The outcome record a DONE slot holds (R136). -/
def State.doneOutcome (s : State) (i : Nat) : Option OutcomeRecord :=
  match (s.slot i).msg with
  | none => none
  | some m =>
    match m.state with
    | .done r => some ⟨i, (s.slot i).tag, m.dest, r, m.attempts⟩
    | _ => none

/-- A DONE slot becomes FREE and keeps its tag (R138). -/
def State.freeDone (s : State) (i : Nat) : State :=
  if (s.doneOutcome i).isSome then s.setSlot i ⟨(s.slot i).tag, none⟩ else s

/-- Step 2 of R139: waiting outcomes move into the room of the outcome queue, and their slots become FREE. -/
def State.refill (s : State) : State :=
  let moved := s.outcomes.waiting.take (Config.outcomeRoom - s.outcomes.queue.length)
  let queued := s.modOutcomes fun o =>
    { queue := o.queue ++ moved.filterMap s.doneOutcome, waiting := o.waiting.drop moved.length }
  moved.foldl State.freeDone queued

/-- R139: TAKE OUTCOMES. -/
def answerTakeOutcomes (max : Byte) (s : State) : Answer :=
  if max.toNat < 1 ∨ 8 < max.toNat then s.unchanged .badParameter
  else if s.outcomes.queue = [] then s.unchanged .empty
  else
    let taken := s.outcomes.queue.take max.toNat
    ⟨(s.modOutcomes fun o => { o with queue := o.queue.drop max.toNat }).refill, .ok,
      byte taken.length :: taken.flatMap OutcomeRecord.bytes⟩

/-- R144: READ COUNTERS. -/
def answerReadCounters (clear : Byte) (s : State) : Answer :=
  if clear = 0 then ⟨s, .ok, s.counters.bytes⟩
  else if clear = 1 then ⟨s.modCounters fun _ => Counters.zero, .ok, s.counters.bytes⟩
  else s.unchanged .badParameter

/-! ### Peer table -/

/-- R77: READ PEER. -/
def answerReadPeer (address : Byte) (s : State) : Answer :=
  let a := address.toNat
  if a = 0 ∨ 30 < a ∨ a = s.station.address then s.unchanged .badDest
  else ⟨s, .ok, (s.peer a).bytes (s.queue a).length⟩

end Sys2Proof.Machine
end

