-- ==== Sys2Proof/Machine/HostLink.lean ====
section
/-! DEFINITION. The host link (Chapter 9): the resets, the transaction, the reply slot, and the requests as
they are taken at SEL rising (R152). -/

namespace Sys2Proof.Machine

/-! ### Resets -/

/-- R5: the burst under way. A frame being driven is always in one (R35); any other has ended once the idle period has
grown longer than 1 ct, also where its END_OF_FRAME was not given (notes/assumptions 20). -/
def State.burstUnderWay (s : State) : Option Burst := if !s.de && s.line.over then none else s.line.burst

/-- R59, R60: every block in its pin-reset state, with the given configuration record and reply; the straps
are sampled, the line is idle or active as RXD stands (R4), and a burst under way is ignored from here on (R19). What
is outside the part stays: the SEL level, what SDO has sent, the generator (R20), the count of ticks and the waiting
commands. -/
def State.resetWith (s : State) (config : ConfigRecord) (reply : Option Reply) (straps : BitVec 5)
    (rxdMark : Bool) : State :=
  { State.reset with
    pins := ⟨straps⟩
    line := Line.reset s.burstUnderWay rxdMark
    station := Station.reset config straps.toNat
    link := { State.reset.link with reply := reply, selLow := s.link.selLow, sdo := s.link.sdo }
    generator := s.generator
    ticks := s.ticks
    pending := s.pending }

/-- What SDO has sent once `n` more bits of a transaction are clocked (R146, R147); of one abandoned by a reset,
zeros (R153). With SEL high SCK is ignored. -/
def Link.sdoAfter (l : Link) (n : Nat) : Bits :=
  match l.txn with
  | some t => t.sent (t.sdi.length + n)
  | none => if l.selLow then l.sdo ++ List.replicate n false else l.sdo

/-- PIN_RESET (R59): a transaction under way is abandoned (R153); what it had sent on SDO stands sent. The low level
on RESET is taken as one instant, at which the straps are sampled; the next command finds the part running
(notes/assumptions 22). -/
def execPinReset (straps : BitVec 5) (rxdMark : Bool) (s : State) (sdi : Bits := []) :
    Host.Outcome State Fault Refusal :=
  .next
    ((s.modLink fun l => { l with sdo := l.sdoAfter sdi.length }).resetWith ConfigRecord.default none straps rxdMark)

/-- R60, R153: RESTART keeps the configuration record and places the reply RESTARTED, whatever the slot held. -/
def State.restart (s : State) (straps : BitVec 5) (rxdMark : Bool) : State :=
  s.resetWith s.station.config (some ⟨Code.restart, .restarted, []⟩) straps rxdMark

/-- RESTART (R60). -/
def execRestart (straps : BitVec 5) (rxdMark : Bool) (s : State) : Host.Outcome State Fault Refusal :=
  .next (s.restart straps rxdMark)

/-! ### Taking a request -/

/-- R152, cases 4 to 7: with the reply slot occupied the request is discarded and DISCARDED set; otherwise its
answer's reply is placed, with the request code echoed. A request row given while SEL is low, with a
transaction open, which R147 excludes, or after a pin reset that abandoned one, when R153 lets nothing be taken before
SEL has been seen high, is taken in the same way and leaves the link as it stands otherwise (notes/assumptions 12). -/
def State.present (s : State) (code : Byte) (answer : State → Answer) : State :=
  match s.link.reply with
  | some _ => s.modLink fun l => { l with discarded := true }
  | none =>
    (answer s).state.modLink fun l =>
      { l with reply := some ⟨code, (answer s).result, (answer s).data⟩ }

/-- NOP (R152, case 2): nothing is taken. -/
def execNop (s : State) : Host.Outcome State Fault Refusal := .next s

/-- STATUS (R156). -/
def execStatus (s : State) : Host.Outcome State Fault Refusal := .next (s.present Code.status answerStatus)

/-- CONFIGURE (R40). -/
def execConfigure (rate attempts retryBase beacon holdTime holdLevel resumeLevel mask : Byte) (s : State) :
    Host.Outcome State Fault Refusal :=
  .next
    (s.present Code.configure
      (answerConfigure rate attempts retryBase beacon holdTime holdLevel resumeLevel mask))

/-- JOIN (R42). -/
def execJoin (s : State) : Host.Outcome State Fault Refusal := .next (s.present Code.join answerJoin)

/-- LEAVE (R51, R54). -/
def execLeave (mode : Byte) (s : State) : Host.Outcome State Fault Refusal :=
  .next (s.present Code.leave (answerLeave mode))

/-- POST (R86, R154). -/
def execPost (dest cls length : Byte) (payload : List Byte) (s : State) : Host.Outcome State Fault Refusal :=
  .next (s.present Code.post (answerPostBytes dest cls length payload))

/-- CANCEL (R89). -/
def execCancel (slot tag : Byte) (s : State) : Host.Outcome State Fault Refusal :=
  .next (s.present Code.cancel (answerCancel slot tag))

/-- FETCH (R128). -/
def execFetch (s : State) : Host.Outcome State Fault Refusal := .next (s.present Code.fetch answerFetch)

/-- TAKE_OUTCOMES (R139). -/
def execTakeOutcomes (max : Byte) (s : State) : Host.Outcome State Fault Refusal :=
  .next (s.present Code.takeOutcomes (answerTakeOutcomes max))

/-- READ_PEER (R77). -/
def execReadPeer (address : Byte) (s : State) : Host.Outcome State Fault Refusal :=
  .next (s.present Code.readPeer (answerReadPeer address))

/-- READ_COUNTERS (R144). -/
def execReadCounters (clear : Byte) (s : State) : Host.Outcome State Fault Refusal :=
  .next (s.present Code.readCounters (answerReadCounters clear))

/-! ### Transactions -/

/-- R152, cases 5 to 7, with the parameter counts of Table 10-3 (R154): the answer to a request code and its
parameter bytes; too few bytes are MALFORMED, an unknown code UNKNOWN_REQUEST. -/
def requestAnswer (code : Byte) (params : List Byte) (s : State) : Answer :=
  if code = Code.status then answerStatus s
  else if code = Code.configure then
    match params with
    | rate :: attempts :: retryBase :: beacon :: holdTime :: holdLevel :: resumeLevel :: mask :: _ =>
      answerConfigure rate attempts retryBase beacon holdTime holdLevel resumeLevel mask s
    | _ => s.unchanged .malformed
  else if code = Code.join then answerJoin s
  else if code = Code.leave then
    match params with
    | mode :: _ => answerLeave mode s
    | [] => s.unchanged .malformed
  else if code = Code.post then
    match params with
    | dest :: cls :: length :: payload => answerPostBytes dest cls length payload s
    | _ => s.unchanged .malformed
  else if code = Code.cancel then
    match params with
    | slot :: tag :: _ => answerCancel slot tag s
    | _ => s.unchanged .malformed
  else if code = Code.fetch then answerFetch s
  else if code = Code.takeOutcomes then
    match params with
    | max :: _ => answerTakeOutcomes max s
    | [] => s.unchanged .malformed
  else if code = Code.readPeer then
    match params with
    | address :: _ => answerReadPeer address s
    | [] => s.unchanged .malformed
  else if code = Code.readCounters then
    match params with
    | clear :: _ => answerReadCounters clear s
    | [] => s.unchanged .malformed
  else s.unchanged .unknownRequest

/-- R152: the request named in byte 0, if that byte is complete. RESTART samples the straps and RXD at that
instant (R60, R4). -/
def State.takeRequest (s : State) (straps : BitVec 5) (rxdMark : Bool) (bytes : List Byte) : State :=
  match bytes with
  | [] => s
  | code :: params =>
    if code = Code.nop then s
    else if code = Code.restart then s.restart straps rxdMark
    else s.present code (requestAnswer code params)

/-- TRANSACTION_START (R147): SEL falls: the status byte is formed and the reply noted. While SEL is low it
cannot fall (R153). -/
def execTransactionStart (s : State) : Host.Outcome State Fault Refusal :=
  .next
    (if s.link.selLow then s
    else s.modLink fun l => { l with selLow := true, sdo := [], txn := some ⟨s.statusByte, l.reply, []⟩ })

/-- R146, R151: the bits `sdi` are clocked in the transaction `t`. If byte 0 completes with them, the status byte
has been clocked out whole, and DISCARDED is cleared if it was shown as 1. -/
def Link.clock (l : Link) (t : Transaction) (sdi : Bits) : Link :=
  let now := { t with sdi := t.sdi ++ sdi }
  { l with
    discarded := l.discarded && !(!t.clocked && now.clocked && t.status.getLsbD 6)
    txn := some now
    sdo := now.sent now.sdi.length }

/-- STATUS_BYTE_CLOCKED (R151): the eighth rising edge of SCK completes byte 0. Where the byte sampled is not
written it is 0x00, the NOP code (notes/assumptions 23). -/
def execStatusByteClocked (s : State) (byte0 : Byte := 0) : Host.Outcome State Fault Refusal :=
  .next
    (match s.link.txn with
    | none => s
    | some t => if t.sdi = [] then s.modLink fun l => l.clock t (bitsOf byte0) else s)

/-- R150: the noted reply leaves the slot if the transaction completed 1 + L bytes. -/
def Link.consume (l : Link) (t : Transaction) (n : Nat) : Link :=
  match t.noted with
  | none => l
  | some r => if 1 + r.bytes.length ≤ n then { l with reply := none } else l

/-- R147 at SEL rising: the last bits are clocked, the noted reply is settled by the complete bytes, and the
transaction is over. -/
def Link.finish (l : Link) (t : Transaction) (sdi : Bits) : Link :=
  { (l.clock t sdi).consume t ((t.sdi.length + sdi.length) / 8) with txn := none, selLow := false }

/-- TRANSACTION_END (R147, R150, R152): SEL rises. A transaction abandoned by a reset has sent zeros since and
takes nothing (R153); with SEL high, SEL does not rise. -/
def execTransactionEnd (sdi : Bits) (s : State) (straps : BitVec 5 := Config.resetStraps)
    (rxdMark : Bool := true) : Host.Outcome State Fault Refusal :=
  .next
    (match s.link.txn with
    | none => s.modLink fun l => { l with selLow := false, sdo := l.sdoAfter sdi.length }
    | some t => (s.modLink fun l => l.finish t sdi).takeRequest straps rxdMark (bytesOf (t.sdi ++ sdi)))

end Sys2Proof.Machine
end

