-- ==== Sys2Proof/Machine/Reception.lean ====
section
/-! DEFINITION. END_OF_FRAME: classing a burst (R6), validating it (R12), the address conflict (R14, R46), the
peer table's update (R64), routing (R15), the inbound store's decision (R119, R124), and the reply window
(R32, R108). -/

namespace Sys2Proof.Machine

/-- R46: an address conflict reaches the station controller. -/
def State.addressConflict (s : State) : State :=
  let counted := s.count .addressConflicts
  if s.station.state = .joining then
    ((counted.modStation fun st => { st with faultReason := .addressInUse }).enterUnjoined).flagChange
  else counted.modStation fun st => { st with conflict := true }

/-- R64: a record as a valid frame from its station leaves it; a LEAVE notice makes no step 1. -/
def PeerRecord.heard (c : ConfigRecord) (f : Frame) (p : PeerRecord) : PeerRecord :=
  let seen :=
    if f.kind = .notice .leave then p
    else { p with presence := .present, presenceTimer := .running c.presenceMs }
  let known :=
    if p.epoch = some f.epoch then seen else { seen with epoch := some f.epoch, lastAccepted := none }
  if f.h then { known with held := true, holdTimer := .running c.holdMs }
  else { known with held := false, holdTimer := .stopped }

/-- R67: the sender of a LEAVE notice departs. -/
def State.departure (s : State) (a : Nat) : State :=
  (s.makeSilent a).modPeer a fun p =>
    { p with epoch := none, lastAccepted := none, held := false, holdTimer := .stopped }

/-- R122, R33: the reply to the DATA frame `f` is built and handed to the access controller, which discards it
in OFF. -/
def State.answer (s : State) (kind : FrameKind) (f : Frame) : State :=
  s.modAccess fun a => if a.state = .off then a else { a with reply := some (s.replyFrame kind f) }

/-- A record joins the tail of the store (R120, R124). -/
def State.listRecord (s : State) (r : Received) : State :=
  s.modInbound fun b => { b with records := b.records ++ [r] }

/-- H is re-evaluated for the count after an append (R126). -/
def State.applyHoldLevel (s : State) : State :=
  s.setH (holdAfterAppend s.station.config s.inbound.records.length s.inbound.h)

/-- R120: a DATA frame is appended: the record, then the sender's last accepted sequence, then H. -/
def State.appendData (s : State) (f : Frame) : State :=
  ((s.listRecord ⟨f.source, .acked, false, f.payload⟩).modPeer f.source
    fun p => { p with lastAccepted := some f.seq }).applyHoldLevel

/-- R119, R123: a DATA frame addressed here: REFUSE when full, ACK for a duplicate, else append and ACK. -/
def State.receiveData (s : State) (f : Frame) : State :=
  if s.inService then
    if Config.inboundRoom ≤ s.inbound.records.length then
      (s.count .refusalsSent).answer .refuse f
    else if (s.peer f.source).lastAccepted = some f.seq then
      (s.count .duplicates).answer .ack f
    else
      (s.appendData f).answer .ack f
  else s

/-- R124, R123: a DATAGRAM frame addressed here or to all is appended while there is room, else dropped. -/
def State.receiveDatagram (s : State) (f : Frame) : State :=
  if s.inService then
    if Config.inboundRoom ≤ s.inbound.records.length then s.count .droppedDatagrams
    else (s.listRecord ⟨f.source, .datagram, f.dest = Config.broadcast, f.payload⟩).applyHoldLevel
  else s

/-- R108: what a valid frame that ends a burst is to the reply window. -/
def State.windowReply (s : State) (f : Frame) : WindowResult :=
  if s.access.state = .awaitReply ∧ s.access.occupied then
    match s.engine.inFlight with
    | .message i =>
      match (s.slot i).msg with
      | none => .noReply
      | some m =>
        if f.dest = s.station.address ∧ f.source ≠ s.station.address ∧ f.source = m.dest ∧
            m.seq = some f.seq then
          match f.kind with
          | .ack => .ack
          | .refuse => .refuse
          | _ => .noReply
        else .noReply
    | _ => .noReply
  else .noReply

/-- R15: a valid frame from another station is routed by kind and destination. An ACK or REFUSE that is not
the window's reply is a stray reply (R112). -/
def State.route (s : State) (f : Frame) : State :=
  match f.kind with
  | .data => if f.dest = s.station.address then s.receiveData f else s
  | .datagram =>
    if f.dest = s.station.address ∨ f.dest = Config.broadcast then s.receiveDatagram f else s
  | .ack =>
    if f.dest = s.station.address ∧ s.windowReply f = .noReply then s.count .strayReplies else s
  | .refuse =>
    if f.dest = s.station.address ∧ s.windowReply f = .noReply then s.count .strayReplies else s
  | .notice .leave => s.departure f.source
  | .notice _ => s

/-- R14, R15: a valid frame is an address conflict, or is taken by the peer table and then routed. -/
def State.takeValid (s : State) (f : Frame) : State :=
  if f.source = s.station.address then s.addressConflict
  else (s.modPeer f.source (PeerRecord.heard s.station.config f)).route f

/-- R12: what the frame unit found is counted, and a valid frame goes on. -/
def State.takeFound (s : State) : Found → State
  | .noFrame => s
  | .discarded k => s.count k
  | .valid f => (s.count .framesHeard).takeValid f

/-- R6: the burst is a heard frame: not own activity, and the station was not UNJOINED at its start, nor is
it at its end. -/
def State.hears (s : State) (b : Burst) : Bool :=
  !b.own && !b.ignored && s.station.state ≠ .unjoined

/-- R32, R108: what closes the window at this end of frame. -/
def State.windowClose (s : State) : Found → WindowResult
  | .valid f => s.windowReply f
  | _ => .noReply

/-- R5: what the burst is at its end: the levels left of it are heard, and then the idle that ends it. -/
def State.found (s : State) (rxd : Levels) : Found :=
  ((s.line.hearAll (rxd ++ closingIdle)).burst.map Burst.found).getD .noFrame

/-- R5: the burst is over: the line has been idle for (just over) 1 ct and the stuck-line count stops
(R35). -/
def State.lineEnded (s : State) : State :=
  (s.modLine fun _ => Line.ended).modAccess fun a => { a with stuck := false }

/-- R23, R31, R32: the access controller at an end of frame: DEFER goes to GAP, an occupied reply window
closes with `w`, and the end of the own DATA burst alone has no effect on the window; an IDLE one acts on what the frame changed (R22). -/
def State.accessEnded (s : State) (w : WindowResult) : State :=
  match s.access.state with
  | .defer => s.modAccess fun a => { a with state := .gap }
  | .awaitReply => if s.access.occupied then (s.closeWindow w).contendOrIdle else s
  | _ => s.applyWants

/-- R6: the end of the burst `b`, in which `found` was found; the frame has its whole effect, then the access
controller takes the end of frame and closes the window (notes/assumptions 15). -/
def State.endBurst (s : State) (b : Burst) (found : Found) : State :=
  if s.hears b then
    (s.lineEnded.takeFound found).accessEnded (s.windowClose found)
  else s.lineEnded.accessEnded .noReply

/-- R31: activity among the levels left of a burst occupies an open reply window; no start of activity is reported
inside a burst (R4), as where a burst joins the own DATA frame's. -/
def State.occupyWindow (s : State) (rxd : Levels) : State :=
  s.modAccess fun a => { a with occupied := a.occupied || (a.state = .awaitReply && s.line.activeIn rxd) }

/-- R6: the end of the burst under way. -/
def State.endOfFrame (s : State) (rxd : Levels) : State :=
  match s.line.burst with
  | none => s
  | some b => (s.occupyWindow rxd).endBurst b (s.found rxd)

/-- END_OF_FRAME (R6). No burst ends while this station drives; a burst whose start was not reported starts
here (notes/assumptions 6, 7). -/
def execEndOfFrame (rxd : Levels) (s : State) : Host.Outcome State Fault Refusal :=
  .next
    (if s.de then s
    else if s.line.burst.isSome then s.endOfFrame rxd
    else (s.beginActivity rxd).endOfFrame [])

end Sys2Proof.Machine
end

