-- ==== Sys2Proof/Machine/Timers.lean ====
section
/-! DEFINITION. The slow timers that run out (R44, R49, R50, R66, R72, R113), and the tick of the 1 ms
timebase, which is what a step does on an empty queue (notes/assumptions 2, 3). -/

namespace Sys2Proof.Machine

/-- The timer runs. -/
def Timer.runs : Timer → Bool
  | .running _ => true
  | _ => false

/-! ### The timebase -/

/-- A running timer counts down `ms`, at most to 0. -/
def Timer.countDown (ms : Nat) : Timer → Timer
  | .running left => .running (left - ms)
  | t => t

/-- The timer has run its interval out, and its running out has not been taken yet. -/
def Timer.due : Timer → Bool
  | .running 0 => true
  | _ => false

/-- Both timers of a record count down. -/
def PeerRecord.countDown (ms : Nat) (p : PeerRecord) : PeerRecord :=
  { p with presenceTimer := p.presenceTimer.countDown ms, holdTimer := p.holdTimer.countDown ms }

/-- The retry timer of a slot counts down (R113). -/
def Slot.countDown (ms : Nat) (x : Slot) : Slot :=
  match x.msg with
  | none => x
  | some m =>
    match m.state with
    | .retryWait left => { x with msg := some { m with state := .retryWait (left - ms) } }
    | _ => x

/-- The retry timer of the slot has run its interval out. -/
def Slot.retryDue (x : Slot) : Bool :=
  match x.msg with
  | none => false
  | some m => m.state = .retryWait 0

/-- `ms` of the 1 ms timebase pass: every slow timer that runs counts down (section 3.1 of Chapter 3). -/
def State.elapse (s : State) (ms : Nat) : State :=
  { s with
    station :=
      { s.station with
        listen := s.station.listen.countDown ms
        beacon := s.station.beacon.countDown ms
        renewal := s.station.renewal.countDown ms }
    peers := s.peers.map (PeerRecord.countDown ms)
    outbound := { s.outbound with slots := s.outbound.slots.map (Slot.countDown ms) }
    ticks := s.ticks + ms }

/-! ### Timers that run out -/

/-- R44: the JOIN notice is placed. -/
def State.listenOut (s : State) : State :=
  if s.station.listen.due ∧ s.station.state = .joining then
    ((s.modStation fun st => { st with listen := .stopped }).placeNotice .join).applyWants
  else s

/-- R49: a BEACON notice is placed in ACTIVE and LEAVING. -/
def State.beaconOut (s : State) : State :=
  if s.station.beacon.due then
    let expired := s.modStation fun st => { st with beacon := .runOut }
    if s.inService then (expired.placeNotice .beacon).applyWants else expired
  else s

/-- R50: the hold condition is re-evaluated. -/
def State.renewalOut (s : State) : State :=
  if s.station.renewal.due then
    ((s.modStation fun st => { st with renewal := .runOut }).reevalHold).applyWants
  else s

/-- R66: the peer becomes SILENT. A frame taken first has restarted the timer, which is then not due (R71). -/
def State.presenceOut (s : State) (peer : Nat) : State :=
  if (s.peer peer).presence = .present ∧ (s.peer peer).presenceTimer.due then (s.makeSilent peer).applyWants
  else s

/-- R72: the peer's hold becomes OPEN. A frame with H = 1 taken first has restarted the timer (R74). -/
def State.holdOut (s : State) (peer : Nat) : State :=
  if (s.peer peer).held ∧ (s.peer peer).holdTimer.due then
    (s.modPeer peer fun p => { p with held := false, holdTimer := .stopped }).applyWants
  else s

/-- R113: the message returns to QUEUED where it stands. -/
def State.retryOut (s : State) (slot : Nat) : State :=
  if (s.slot slot).retryDue then (s.modMessage slot fun m => { m with state := .queued }).applyWants else s

/-- JOIN_LISTEN_EXPIRY (R44). In each of these commands the operand's ms pass first, and the timer runs out if
its interval is then over (notes/assumptions 2). -/
def execJoinListenExpiry (s : State) (elapsed : Nat := 0) : Host.Outcome State Fault Refusal :=
  .next (s.elapse elapsed).listenOut

/-- BEACON_TIMER_EXPIRY (R49). -/
def execBeaconTimerExpiry (s : State) (elapsed : Nat := 0) : Host.Outcome State Fault Refusal :=
  .next (s.elapse elapsed).beaconOut

/-- HOLD_RENEWAL_EXPIRY (R50). -/
def execHoldRenewalExpiry (s : State) (elapsed : Nat := 0) : Host.Outcome State Fault Refusal :=
  .next (s.elapse elapsed).renewalOut

/-- PRESENCE_TIMEOUT (R66). -/
def execPresenceTimeout (peer : Nat) (s : State) (elapsed : Nat := 0) : Host.Outcome State Fault Refusal :=
  .next ((s.elapse elapsed).presenceOut peer)

/-- HOLD_TIMER_EXPIRY (R72). -/
def execHoldTimerExpiry (peer : Nat) (s : State) (elapsed : Nat := 0) : Host.Outcome State Fault Refusal :=
  .next ((s.elapse elapsed).holdOut peer)

/-- RETRY_TIMER_EXPIRY (R113). -/
def execRetryTimerExpiry (slot : Nat) (s : State) (elapsed : Nat := 0) : Host.Outcome State Fault Refusal :=
  .next ((s.elapse elapsed).retryOut slot)

/-! ### The tick -/

/-- The expiry commands of the timers that are due. -/
def State.dueCommands (s : State) : List Instr :=
  let peers := List.range' 1 Config.peers
  [if s.station.listen.due then [Instr.joinListenExpiry 0] else [],
    if s.station.beacon.due then [Instr.beaconTimerExpiry 0] else [],
    if s.station.renewal.due then [Instr.holdRenewalExpiry 0] else [],
    (peers.filter fun a => (s.peer a).presenceTimer.due).map fun a => Instr.presenceTimeout a 0,
    (peers.filter fun a => (s.peer a).holdTimer.due).map fun a => Instr.holdTimerExpiry a 0,
    ((List.range Config.slots).filter fun i => (s.slot i).retryDue).map fun i =>
      Instr.retryTimerExpiry i 0].flatten

/-- A command inserted by its rank among commands already in rank order. -/
def insertRanked (rank : Nat → Nat) (x : Nat × Instr) : List (Nat × Instr) → List (Nat × Instr)
  | [] => [x]
  | y :: ys => if rank x.1 ≤ rank y.1 then x :: y :: ys else y :: insertRanked rank x ys

/-- The commands in a FREE order (notes/assumptions 3): the spec takes simultaneous events in either order. -/
def arrange (rank : Nat → Nat) (cs : List Instr) : List Instr :=
  ((cs.zipIdx.map fun p => (p.2, p.1)).foldr (insertRanked rank) []).map fun p => p.2

/-- The tick: one ms passes, and each timer then due puts its expiry in the queue. -/
def State.tick (s : State) : State :=
  let counted := s.elapse 1
  { counted with pending := s.pending ++ arrange (Config.tickRank s.ticks) counted.dueCommands }

end Sys2Proof.Machine
end

