-- ==== Sys2Proof/Machine/Dispatch.lean ====
section
/-! DEFINITION. One arm per command: each is one call of its meaning. -/

namespace Sys2Proof.Machine

def exec (i : Instr) (s : State) : Host.Outcome State Fault Refusal :=
  match i with
  | .pinReset straps rxdMark sdi => Sys2Proof.Machine.execPinReset straps rxdMark s sdi
  | .transactionStart => Sys2Proof.Machine.execTransactionStart s
  | .statusByteClocked byte0 => Sys2Proof.Machine.execStatusByteClocked s byte0
  | .transactionEnd sdi straps rxdMark => Sys2Proof.Machine.execTransactionEnd sdi s straps rxdMark
  | .nop => Sys2Proof.Machine.execNop s
  | .status => Sys2Proof.Machine.execStatus s
  | .configure rate attempts retryBase beacon holdTime holdLevel resumeLevel mask => Sys2Proof.Machine.execConfigure rate attempts retryBase beacon holdTime holdLevel resumeLevel mask s
  | .join => Sys2Proof.Machine.execJoin s
  | .leave mode => Sys2Proof.Machine.execLeave mode s
  | .restart straps rxdMark => Sys2Proof.Machine.execRestart straps rxdMark s
  | .post dest cls length payload => Sys2Proof.Machine.execPost dest cls length payload s
  | .cancel slot tag => Sys2Proof.Machine.execCancel slot tag s
  | .fetch => Sys2Proof.Machine.execFetch s
  | .takeOutcomes max => Sys2Proof.Machine.execTakeOutcomes max s
  | .readPeer address => Sys2Proof.Machine.execReadPeer address s
  | .readCounters clear => Sys2Proof.Machine.execReadCounters clear s
  | .activityStart rxd => Sys2Proof.Machine.execActivityStart s rxd
  | .endOfFrame rxd => Sys2Proof.Machine.execEndOfFrame rxd s
  | .accessGapComplete => Sys2Proof.Machine.execAccessGapComplete s
  | .lineWin => Sys2Proof.Machine.execLineWin s
  | .frameComplete rxd => Sys2Proof.Machine.execFrameComplete rxd s
  | .collision rxd => Sys2Proof.Machine.execCollision rxd s
  | .replyGap => Sys2Proof.Machine.execReplyGap s
  | .replyComplete rxd => Sys2Proof.Machine.execReplyComplete rxd s
  | .replyCollision rxd => Sys2Proof.Machine.execReplyCollision rxd s
  | .replyWindowTimeout => Sys2Proof.Machine.execReplyWindowTimeout s
  | .stuckLine => Sys2Proof.Machine.execStuckLine s
  | .lineQuiet => Sys2Proof.Machine.execLineQuiet s
  | .joinListenExpiry elapsed => Sys2Proof.Machine.execJoinListenExpiry s elapsed
  | .beaconTimerExpiry elapsed => Sys2Proof.Machine.execBeaconTimerExpiry s elapsed
  | .holdRenewalExpiry elapsed => Sys2Proof.Machine.execHoldRenewalExpiry s elapsed
  | .presenceTimeout peer elapsed => Sys2Proof.Machine.execPresenceTimeout peer s elapsed
  | .holdTimerExpiry peer elapsed => Sys2Proof.Machine.execHoldTimerExpiry peer s elapsed
  | .retryTimerExpiry slot elapsed => Sys2Proof.Machine.execRetryTimerExpiry slot s elapsed

end Sys2Proof.Machine
end

