-- ==== Sys2Proof/Safety.lean ====
section
/-! DEFINITION. What counts as a safe run: the invariants the rules state of the part, and the vocabulary the
statements use (which blocks a command leaves unchanged, the outcomes the host is still owed). -/

namespace Sys2Proof

/-- The bytes the host sends for a request row (Table 10-3); none for a row that is no request. -/
def Instr.requestBytes : Instr → Option (List Byte)
  | .nop => some [Machine.Code.nop]
  | .status => some [Machine.Code.status]
  | .configure rate attempts retryBase beacon holdTime holdLevel resumeLevel mask =>
    some [Machine.Code.configure, rate, attempts, retryBase, beacon, holdTime, holdLevel, resumeLevel, mask]
  | .join => some [Machine.Code.join]
  | .leave mode => some [Machine.Code.leave, mode]
  | .restart _ _ => some [Machine.Code.restart]
  | .post dest cls length payload => some (Machine.Code.post :: dest :: cls :: length :: payload)
  | .cancel slot tag => some [Machine.Code.cancel, slot, tag]
  | .fetch => some [Machine.Code.fetch]
  | .takeOutcomes max => some [Machine.Code.takeOutcomes, max]
  | .readPeer address => some [Machine.Code.readPeer, address]
  | .readCounters clear => some [Machine.Code.readCounters, clear]
  | _ => none

/-- The command is a request that needs the reply slot: every request but NOP and RESTART (R152). -/
def Instr.needsSlot (c : Instr) : Bool :=
  match c.requestBytes with
  | some (code :: _) => code ≠ Machine.Code.nop && code ≠ Machine.Code.restart
  | _ => false

/-- The ms of the timebase that pass with the command: the operand of the expiry rows (notes/assumptions 2). -/
def Instr.elapsed : Instr → Nat
  | .joinListenExpiry ms => ms
  | .beaconTimerExpiry ms => ms
  | .holdRenewalExpiry ms => ms
  | .presenceTimeout _ ms => ms
  | .holdTimerExpiry _ ms => ms
  | .retryTimerExpiry _ ms => ms
  | _ => 0

end Sys2Proof

namespace Sys2Proof.Machine

/-! ### Frames of commands -/

/-- The parts of the state, one name each (Table 2-1 of 00_scope.md and the model's own). -/
inductive Block where
  | pins | line | access | station | peers | outbound | engine | inbound | outcomes | counters | link
  | generator | ticks | pending
  deriving DecidableEq, Repr

/-- The block is the same in both states. -/
def Block.Same (s t : State) : Block → Prop
  | .pins => t.pins = s.pins
  | .line => t.line = s.line
  | .access => t.access = s.access
  | .station => t.station = s.station
  | .peers => t.peers = s.peers
  | .outbound => t.outbound = s.outbound
  | .engine => t.engine = s.engine
  | .inbound => t.inbound = s.inbound
  | .outcomes => t.outcomes = s.outcomes
  | .counters => t.counters = s.counters
  | .link => t.link = s.link
  | .generator => t.generator = s.generator
  | .ticks => t.ticks = s.ticks
  | .pending => t.pending = s.pending

/-- Every block outside `changed` is the same in `t` as in `s`. -/
def UnchangedBut (changed : List Block) (s t : State) : Prop := ∀ b, b ∉ changed → b.Same s t

/-! ### Invariants -/

/-- R50: a HOLD notice is in the set exactly while the hold condition holds. -/
abbrev HoldNoticeExact (s : State) : Prop := s.station.notices.hold = s.holdCondition

/-- R22: an IDLE access controller wants nothing. -/
abbrev IdleWantsNothing (s : State) : Prop := s.access.state = .idle → s.wantsLine = false

/-- R9, R33: a reply decided or being driven is an ACK or a REFUSE. -/
def Access.repliesOnly (a : Access) : Bool :=
  let isReply := fun f : Frame => f.kind = .ack || f.kind = .refuse
  a.reply.all isReply && (a.state ≠ .replying || a.frame.all isReply)

/-- R52: in LEAVING with every destination queue empty the LEAVE notice is placed; only a contended frame takes
it out of the set, since a reply is an ACK or a REFUSE (R9). -/
abbrev LeaveNoticePlaced (s : State) : Prop :=
  s.access.repliesOnly = true ∧
    (s.station.state = .leaving → (∀ d ∈ destinations, s.queue d = []) → s.station.notices.leave = true)

/-- R21, R38: the access controller is OFF exactly in UNJOINED and LINE_FAULT. -/
abbrev AccessFollowsStation (s : State) : Prop :=
  s.access.state = .off ↔ (s.station.state = .unjoined ∨ s.station.state = .lineFault)

/-- R126: the inbound count is at most 32 (R118), H is 1 at or above the hold level and 0 at or below the
resume level, with a configuration record in its ranges (R40). -/
abbrev HoldFollowsFill (s : State) : Prop :=
  s.station.config.inRange = true ∧ s.inbound.records.length ≤ Config.inboundRoom ∧
    (s.station.config.holdLevel ≤ s.inbound.records.length → s.inbound.h = true) ∧
    (s.inbound.records.length ≤ s.station.config.resumeLevel → s.inbound.h = false)

/-- What a counter holds, by its name (Table 8-2). -/
def Counters.value (c : Counters) : CounterName → Nat
  | .framesSent => c.framesSent
  | .framesHeard => c.framesHeard
  | .crcErrors => c.crcErrors
  | .framingErrors => c.framingErrors
  | .malformed => c.malformed
  | .collisions => c.collisions
  | .duplicates => c.duplicates
  | .refusalsSent => c.refusalsSent
  | .droppedDatagrams => c.droppedDatagrams
  | .strayReplies => c.strayReplies
  | .addressConflicts => c.addressConflicts

/-- Every counter is at most 65535 (R143). -/
abbrev Counters.Bounded (c : Counters) : Prop :=
  c.framesSent ≤ Config.counterMax ∧ c.framesHeard ≤ Config.counterMax ∧ c.crcErrors ≤ Config.counterMax ∧
    c.framingErrors ≤ Config.counterMax ∧ c.malformed ≤ Config.counterMax ∧
    c.collisions ≤ Config.counterMax ∧ c.duplicates ≤ Config.counterMax ∧
    c.refusalsSent ≤ Config.counterMax ∧ c.droppedDatagrams ≤ Config.counterMax ∧
    c.strayReplies ≤ Config.counterMax ∧ c.addressConflicts ≤ Config.counterMax

/-- The consecutive-collision count is at most 15 (R29) and the counters saturate (R143). -/
abbrev CountsBounded (s : State) : Prop := s.access.n ≤ Config.collisionLimit ∧ s.counters.Bounded

/-- R5: the burst of a line keeps the bytes of its first 71 characters and counts them all. -/
abbrev Line.Counted (l : Line) : Prop := ∀ b, l.burst = some b → b.bytes.length = min b.count Config.frameMax

/-- R5: the burst under way is counted so. -/
abbrev BurstCounted (s : State) : Prop := s.line.Counted

/-- How often slot `i` stands in the destination queues. -/
def State.queuedCount (s : State) (i : Nat) : Nat := (destinations.map fun d => (s.queue d).count i).sum

/-- R83: a slot is FREE and in no list, or DONE and once on the waiting-outcome list, or once in the queue of
its message's destination and in no other. -/
def State.slotPlaced (s : State) (i : Nat) : Bool :=
  match (s.slot i).msg with
  | none => s.queuedCount i = 0 && s.outcomes.waiting.count i = 0
  | some m =>
    match m.state with
    | .done _ => s.queuedCount i = 0 && s.outcomes.waiting.count i = 1
    | _ =>
      destinations.contains m.dest && s.queuedCount i = 1 && (s.queue m.dest).count i = 1 &&
        s.outcomes.waiting.count i = 0

/-- The message of slot `i` is QUEUED. -/
def State.isQueued (s : State) (i : Nat) : Bool :=
  match (s.slot i).msg with
  | some m => m.state = .queued
  | none => false

/-- R83, R84, R136, R137: every slot has its one place, the lists name slots of the part, every slot behind a
head is QUEUED, and a slot waits only while the outcome queue is full. -/
abbrev StoreConsistent (s : State) : Prop :=
  (∀ i < Config.slots, s.slotPlaced i = true) ∧
    (∀ d ∈ destinations, ∀ i ∈ s.queue d, i < Config.slots) ∧
    (∀ i ∈ s.outcomes.waiting, i < Config.slots) ∧
    (∀ d ∈ destinations, ∀ i ∈ (s.queue d).tail, s.isQueued i = true) ∧
    s.outcomes.queue.length ≤ Config.outcomeRoom ∧
    (s.outcomes.waiting ≠ [] → s.outcomes.queue.length = Config.outcomeRoom)

/-- The frame kind of a message class (R8). -/
def MsgClass.frameKind : MsgClass → FrameKind
  | .acked => .data
  | .datagram => .datagram

/-- R97: the item in flight is what the access controller drives or awaits a reply for. -/
def State.driveMatches (s : State) : Bool :=
  match s.engine.inFlight with
  | .none => s.access.state ≠ .sending && s.access.state ≠ .awaitReply
  | .notice r => s.access.state = .sending && s.access.frame.map Frame.kind = some (.notice r)
  | .message i =>
    i < Config.slots &&
    match (s.slot i).msg with
    | none => false
    | some m =>
      match m.state with
      | .onLine _ => s.access.state = .sending && s.access.frame.map Frame.kind = some m.cls.frameKind
      | .awaitReply _ => s.access.state = .awaitReply && m.cls = .acked
      | _ => false

/-- R82: slot `i`, if it is ON_LINE or AWAIT_REPLY, is the item in flight. -/
def State.onlyInFlight (s : State) (i : Nat) : Bool :=
  match (s.slot i).msg with
  | none => true
  | some m =>
    match m.state with
    | .onLine _ => s.engine.inFlight = .message i
    | .awaitReply _ => s.engine.inFlight = .message i
    | _ => true

/-- R82, R97, R21: what is in flight, the slots' states and the access controller agree, so at most one slot is
ON_LINE or AWAIT_REPLY. -/
abbrev InFlightConsistent (s : State) : Prop :=
  AccessFollowsStation s ∧ s.driveMatches = true ∧ ∀ i < Config.slots, s.onlyInFlight i = true

/-- R66, R72: a peer's presence timer runs only while it is PRESENT, its hold timer only while it is HELD. -/
abbrev PeerRecord.TimersGoverned (p : PeerRecord) : Prop :=
  (p.presenceTimer.runs = true → p.presence = .present) ∧ (p.holdTimer.runs = true → p.held = true)

/-- R62, R66, R72, R53: the peer timers are governed by the fields they time, and in UNJOINED no peer timer, no
beacon timer and no join listen timer runs. -/
abbrev TimersGoverned (s : State) : Prop :=
  AccessFollowsStation s ∧
    (∀ a ∈ List.range' 1 Config.peers, (s.peer a).TimersGoverned) ∧
    (s.station.state = .unjoined →
      s.station.listen.runs = false ∧ s.station.beacon.runs = false ∧
        ∀ a ∈ List.range' 1 Config.peers,
          (s.peer a).presenceTimer.runs = false ∧ (s.peer a).holdTimer.runs = false)

/-- The message slot `i` holds, if any, is not for the own address (R86). -/
def State.notForSelf (s : State) (i : Nat) : Bool :=
  match (s.slot i).msg with
  | none => true
  | some m => m.dest ≠ s.station.address

/-- R61, R86: the record of the own address stays initial, and no message is for the own address. -/
abbrev OwnRecordInitial (s : State) : Prop :=
  s.peer s.station.address = PeerRecord.initial ∧ ∀ i < Config.slots, s.notForSelf i = true

/-- Slot `i` is ON_LINE or AWAIT_REPLY with a withdraw mark (R90). -/
def State.isMarked (s : State) (i : Nat) : Bool :=
  match (s.slot i).msg with
  | none => false
  | some m =>
    match m.state with
    | .onLine mark => mark.isSome
    | .awaitReply mark => mark.isSome
    | _ => false

/-- R68: a message in the queue of a SILENT peer carries a withdraw mark. -/
abbrev SilentQueueMarked (s : State) : Prop :=
  ∀ a ∈ List.range' 1 Config.peers, (s.peer a).presence = .silent → ∀ i ∈ s.queue a, s.isMarked i = true

/-! ### What the host is owed -/

/-- The outcome records the host has not taken, in resolution order: those of the outcome queue, then those the
DONE slots hold (R136, R137). -/
def State.owedOutcomes (s : State) : List OutcomeRecord :=
  s.outcomes.queue ++ s.outcomes.waiting.filterMap s.doneOutcome

/-- The outcome record of the message in slot `i` if it is resolved with `r` now (R92). -/
def State.outcomeOf (s : State) (r : MsgResult) (i : Nat) (m : Message) : OutcomeRecord :=
  ⟨i, (s.slot i).tag, m.dest, r, m.attempts⟩

/-- The outcome of slot `i` in a resolution of many messages: of a QUEUED or RETRY_WAIT message only (R93). -/
def State.bulkOutcome (s : State) (r : MsgResult) (i : Nat) : Option OutcomeRecord :=
  match (s.slot i).msg with
  | none => none
  | some m =>
    match m.state with
    | .queued => some (s.outcomeOf r i m)
    | .retryWait _ => some (s.outcomeOf r i m)
    | _ => none

/-- The outcomes of a resolution of queue `d`, head first (R93). -/
def State.bulkOutcomes (s : State) (r : MsgResult) (d : Nat) : List OutcomeRecord :=
  (s.queue d).filterMap (s.bulkOutcome r)

/-! ### What resolutions and an entry to UNJOINED leave -/

/-- R90: a message ON_LINE or AWAIT_REPLY with the mark it had, or with `k` if it had none. -/
def Message.withMark (k : Mark) (m : Message) : Message :=
  match m.state with
  | .onLine mark => { m with state := .onLine (some (mark.getD k)) }
  | .awaitReply mark => { m with state := .awaitReply (some (mark.getD k)) }
  | _ => m

/-- R93: what a resolution of queue `d` leaves there: the slots whose message does not wait, in their order, each
with nothing changed but its mark, which is `k` unless one stood before (R90). -/
abbrev LeavesMarked (s t : State) (k : Mark) (d : Nat) : Prop :=
  (t.queue d = (s.queue d).filter fun i => (s.bulkOutcome k.result i).isNone) ∧
    ∀ i ∈ t.queue d, t.isMarked i = true ∧
      t.slot i = ⟨(s.slot i).tag, (s.slot i).msg.map (Message.withMark k)⟩

/-- R53, R62: every peer record is kept, with both its timers stopped. -/
abbrev PeersKept (s t : State) : Prop :=
  ∀ a, t.peer a = { s.peer a with presenceTimer := .stopped, holdTimer := .stopped }

/-! ### Resets -/

/-- R59, R60, R19: what a pin reset and a RESTART leave alike, a burst under way ignored; the configuration record, the reply slot and SDO are
said apart. -/
abbrev ResetLeaves (s t : State) (straps : BitVec 5) (rxdMark : Bool) : Prop :=
  t.pins.straps = straps ∧
    t.line = ⟨rxdMark, .waiting, 0,
      match if s.de = false ∧ s.lineIdle = true ∧ 20 < s.line.quiet then none else s.line.burst with
      | some b => some ⟨b.own, true, [], 0, false⟩
      | none => if rxdMark then none else some ⟨false, true, [], 0, false⟩⟩ ∧
    t.access = ⟨.off, 0, none, none, none, false, false, false⟩ ∧
    t.station = Station.reset t.station.config straps.toNat ∧
    (∀ a ∈ List.range' 1 Config.peers, t.peer a = PeerRecord.initial) ∧
    (∀ i < Config.slots, t.slot i = ⟨0, none⟩) ∧ (∀ d ∈ destinations, t.queue d = []) ∧
    t.engine = ⟨31, .none⟩ ∧ t.inbound = ⟨[], false⟩ ∧ t.outcomes = ⟨[], []⟩ ∧ t.counters = Counters.zero ∧
    t.link.discarded = false ∧ t.link.txn = none ∧ t.link.selLow = s.link.selLow ∧
    t.generator = s.generator ∧ t.ticks = s.ticks ∧ t.pending = s.pending

/-! ### Requests -/

/-- The codes of Table 10-3. -/
def requestCodes : List Byte :=
  [Code.nop, Code.status, Code.configure, Code.join, Code.leave, Code.restart, Code.post, Code.cancel,
    Code.fetch, Code.takeOutcomes, Code.readPeer, Code.readCounters]

/-- The column "Parameter bytes" of Table 10-3 (R154); a POST's depends on its length byte, when that was sent. -/
def parametersNeeded (code : Byte) (params : List Byte) : Nat :=
  if code = Code.configure then 8
  else if code = Code.post then
    3 + (if (params.getD 2 0).toNat ≤ Config.payloadMax then (params.getD 2 0).toNat else 0)
  else if code = Code.cancel then 2
  else if code = Code.leave ∨ code = Code.takeOutcomes ∨ code = Code.readPeer ∨ code = Code.readCounters then 1
  else 0

/-! ### Frames -/

/-- A frame within the field ranges of Table 1-1 that passes the checks of R13. -/
def Frame.wellFormed (f : Frame) : Bool :=
  f.dest ≤ 31 && (1 ≤ f.source && f.source ≤ 30) && f.epoch < 16 && f.seq < 256 &&
    f.payload.length ≤ Config.payloadMax &&
    match f.kind with
    | .data => f.dest ≠ 31
    | .datagram => f.seq = 0
    | .ack => f.dest ≠ 31 && f.payload = []
    | .refuse => f.dest ≠ 31 && f.payload = []
    | .notice _ => f.dest = 31 && f.seq = 0 && f.payload = []

/-- An END_OF_FRAME ends a burst that is a heard frame (R6). -/
abbrev HearsBurst (s : State) : Prop := s.de = false ∧ s.line.burst.map s.hears = some true

/-- An END_OF_FRAME with these levels ends a heard frame that is valid and is `f` (R6, R12). -/
abbrev HearsFrame (s : State) (rxd : Levels) (f : Frame) : Prop := HearsBurst s ∧ s.found rxd = .valid f

/-- The readback of the bytes of a frame: all its characters came back, or one did not (R17). -/
abbrev ReadsBack (s : State) (f : Frame) (rxd : Levels) (r : Readback) : Prop := (s.line.compare f.bytes rxd).2 = r

/-- The frame in SENDING or REPLYING is `f` (R27, R33). -/
abbrev Drives (s : State) (st : AccessState) (f : Frame) : Prop :=
  s.access.state = st ∧ s.access.frame = some f

/-- The frame on the line is that of the message `m` in slot `i` (R97, R102). -/
abbrev SendsMessage (s : State) (f : Frame) (i : Nat) (m : Message) : Prop :=
  Drives s .sending f ∧ s.engine.inFlight = .message i ∧ (s.slot i).msg = some m ∧
    f.kind = m.cls.frameKind

/-- The reply window of the message `m` in slot `i` is open, with this withdraw mark (R31, R107). -/
abbrev AwaitsReply (s : State) (i : Nat) (m : Message) (mark : Option Mark) : Prop :=
  s.access.state = .awaitReply ∧ s.engine.inFlight = .message i ∧ (s.slot i).msg = some m ∧
    m.state = .awaitReply mark

/-- R31: activity has occupied the reply window, or does so at the levels that END_OF_FRAME gives: RXD at space after
an idle no longer than 1 ct, so still in the burst (R5), whose half bit times are 20 to 1 ct. -/
abbrev WindowOccupied (s : State) (rxd : Levels) : Prop :=
  s.access.occupied = true ∨ s.lineIdle = false ∨
    ∃ k < rxd.length, rxd[k]? = some false ∧ (∀ j < k, rxd[j]? = some true) ∧ s.line.quiet + k ≤ 20

/-- Where the access controller stands after a burst's end outside a reply window (R22, R23). -/
def afterBurst (before : AccessState) (wants : Bool) : AccessState :=
  match before with
  | .defer => .gap
  | .idle => if wants then .gap else .idle
  | st => st

end Sys2Proof.Machine
end

