-- ==== Sys2Proof/Certificates/Slice0/Obligations.lean ====
section
/-! DEFINITION. The statements for the provers. -/

open Sys2Proof Sys2Proof.Machine

/-! ### The machine -/

/-- A step takes the command at the front of the queue. The queue is the model's (notes/assumptions 1). -/
def Obligations.StepTakesFrontCommand : Prop :=
  ∀ (c : Instr) (rest : List Instr) (s : State),
    step { s with pending := c :: rest } = exec c { s with pending := rest }

/-- Every command answers a next state in every state and with every operand; no command touches the queue, the
ticks advance by the ms an expiry lets pass, and at most one value is taken from the generator (R160, R20). That no
command stops is read from R160 and Table 11-1 (notes/assumptions 18); that an event which cannot arise in a state
changes nothing, the queue and the tick count are the model's choices (notes/assumptions 6, 1, 2). -/
def Obligations.EveryCommandCompletes : Prop :=
  ∀ (c : Instr) (s : State),
    ∃ t, exec c s = .next t ∧ t.pending = s.pending ∧ t.ticks = s.ticks + c.elapsed ∧
      (t.generator = s.generator ∨ t.generator = s.generator + 1)

/-- When time passes every slow timer that runs counts down, at most to 0. On an empty queue the part ticks: one ms
passes, and the expiry commands of exactly those timers that are at 0 are queued, each once, in some order (the
model's tick, notes/assumptions 2 and 3). -/
def Obligations.EmptyQueueTicks : Prop :=
  (∀ (s : State) (ms : Nat),
    let t := s.elapse ms
    t.ticks = s.ticks + ms ∧
      t.station = { s.station with
        listen := s.station.listen.countDown ms
        beacon := s.station.beacon.countDown ms
        renewal := s.station.renewal.countDown ms } ∧
      (∀ a, t.peer a = (s.peer a).countDown ms) ∧ (∀ i, t.slot i = (s.slot i).countDown ms) ∧
      (∀ d, t.queue d = s.queue d) ∧ UnchangedBut [.station, .peers, .outbound, .ticks] s t) ∧
  (∀ s : State, s.dueCommands.Nodup ∧ ∀ c, c ∈ s.dueCommands ↔
    (c = .joinListenExpiry 0 ∧ s.station.listen = .running 0) ∨
    (c = .beaconTimerExpiry 0 ∧ s.station.beacon = .running 0) ∨
    (c = .holdRenewalExpiry 0 ∧ s.station.renewal = .running 0) ∨
    (∃ a, 1 ≤ a ∧ a ≤ 30 ∧ c = .presenceTimeout a 0 ∧ (s.peer a).presenceTimer = .running 0) ∨
    (∃ a, 1 ≤ a ∧ a ≤ 30 ∧ c = .holdTimerExpiry a 0 ∧ (s.peer a).holdTimer = .running 0) ∨
    (∃ i m, i < 48 ∧ c = .retryTimerExpiry i 0 ∧ (s.slot i).msg = some m ∧ m.state = .retryWait 0)) ∧
  ∀ s : State, s.pending = [] →
    ∃ t, step s = .next t ∧ t.ticks = s.ticks + 1 ∧
      t.station = { s.station with
        listen := s.station.listen.countDown 1
        beacon := s.station.beacon.countDown 1
        renewal := s.station.renewal.countDown 1 } ∧
      (∀ a, t.peer a = (s.peer a).countDown 1) ∧ (∀ i, t.slot i = (s.slot i).countDown 1) ∧
      (∀ d, t.queue d = s.queue d) ∧ t.pending.Perm t.dueCommands ∧
      UnchangedBut [.station, .peers, .outbound, .ticks, .pending] s t

/-- The reset values of Tables 3-2, 3-3 and 4-1 and of R3, R4, R20, R79, R97, R118, R136, R143 and R149. The levels
on the pins are the model's (notes/assumptions 5) and are not stated. -/
def Obligations.ResetValues : Prop :=
  let s := State.reset
  s.access = ⟨.off, 0, none, none, none, false, false, false⟩ ∧
    s.station.config = ⟨4, 4, 10, 10, 20, 24, 8, ⟨true, true, true, true⟩⟩ ∧
    s.station.state = .unjoined ∧ s.station.epoch = 0 ∧ s.station.prevEpoch = none ∧
    s.station.leaveMode = none ∧ s.station.leavePending = false ∧
    s.station.notices = ⟨false, false, false, false⟩ ∧ s.station.lastSentH = false ∧
    s.station.listen = .stopped ∧ s.station.beacon = .stopped ∧ s.station.renewal = .runOut ∧
    s.station.faultReason = .none ∧ s.station.stateChange = false ∧ s.station.conflict = false ∧
    (∀ a ∈ List.range' 1 30, s.peer a = ⟨.unknown, .stopped, false, .stopped, none, none, 0⟩) ∧
    (∀ i < 48, s.slot i = ⟨0, none⟩) ∧ (∀ d ∈ List.range' 1 31, s.queue d = []) ∧
    s.engine = ⟨31, .none⟩ ∧ s.inbound = ⟨[], false⟩ ∧ s.outcomes = ⟨[], []⟩ ∧
    s.counters = ⟨0, 0, 0, 0, 0, 0, 0, 0, 0, 0, 0⟩ ∧ s.link.reply = none ∧ s.link.discarded = false ∧
    s.link.txn = none ∧ s.line.receiver = .waiting ∧ s.line.quiet = 0 ∧ s.de = false ∧ s.attn = false

/-- R59, R60, R19, R153: a pin reset and a RESTART are taken in every state. Both return every block to its
pin-reset state and release DE; RESTART keeps the configuration record and leaves the reply RESTARTED. The levels of
the straps and of RXD are the operands (notes/assumptions 14). That the pin reset is one instant is the model's choice
(notes/assumptions 22). A burst under way goes on as an ignored one (R19): whatever its end, also after a JOIN, it is
neither counted nor routed; which burst is under way, and that its idle is counted from the reset, is read from R5, R24
and R35 (notes/assumptions 20). A transaction that a reset abandoned sends zeros and takes nothing, and no transaction
begins before SEL has been high. -/
def Obligations.ResetsReturnEveryBlock : Prop :=
  (∀ (straps : BitVec 5) (rxdMark : Bool) (sdi : Bits) (s : State),
    (∃ t, exec (.pinReset straps rxdMark sdi) s = .next t ∧ ResetLeaves s t straps rxdMark ∧
      t.station.config = ConfigRecord.default ∧ t.link.reply = none ∧ t.de = false ∧ t.attn = false ∧
      (∀ x, s.link.txn = some x → t.link.sdo = x.sent (x.sdi.length + sdi.length)) ∧
      (s.link.txn = none → s.link.selLow = true →
        t.link.sdo = s.link.sdo ++ List.replicate sdi.length false)) ∧
    (∃ t, exec (.restart straps rxdMark) s = .next t ∧ ResetLeaves s t straps rxdMark ∧
      t.station.config = s.station.config ∧ t.link.reply = some ⟨0x0F, .restarted, []⟩ ∧ t.de = false ∧
      t.attn = false ∧ t.link.sdo = s.link.sdo)) ∧
  (∀ (c : Instr) (straps : BitVec 5) (rxdMark : Bool) (sdi : Bits) (s t u : State) (rxd : Levels),
    c = .pinReset straps rxdMark sdi ∨ c = .restart straps rxdMark → exec c s = .next t →
    t.line.burst ≠ none → u = t ∨ exec .join t = .next u →
    ∃ v, exec (.endOfFrame rxd) u = .next v ∧ UnchangedBut [.line, .access] u v) ∧
  ∀ s : State, s.link.txn = none → s.link.selLow = true →
    exec .transactionStart s = .next s ∧
    ∀ (straps : BitVec 5) (rxdMark : Bool) (sdi : Bits),
      exec (.transactionEnd sdi straps rxdMark) s = .next { s with link := { s.link with
        selLow := false
        sdo := s.link.sdo ++ List.replicate sdi.length false } }

/-! ### The host link -/

/-- R162: the link status byte, formed at SEL falling and sent as byte 0, with the layout of Table 10-2. -/
def Obligations.StatusByteLayout : Prop :=
  (∀ s : State, s.link.selLow = false →
    ∃ t x, exec .transactionStart s = .next t ∧
      t.link = { s.link with selLow := true, txn := some x, sdo := [] } ∧ UnchangedBut [.link] s t ∧
      x.noted = s.link.reply ∧ x.sdi = [] ∧ (∀ n, (x.sent (n + 8)).take 8 = bitsOf x.status) ∧
      x.status.getLsbD 7 = s.link.reply.isSome ∧ x.status.getLsbD 6 = s.link.discarded ∧
      x.status.getLsbD 5 = s.attn ∧ x.status.getLsbD 4 = false ∧ x.status.getLsbD 3 = false ∧
      (x.status.extractLsb' 0 3).toNat =
        (match s.station.state with
        | .unjoined => 0
        | .joining => 1
        | .active => 2
        | .leaving => 3
        | .lineFault => 4) ∧
      s.summary.head? = some ((x.status.extractLsb' 0 3).setWidth 8)) ∧
  (∀ straps rxdMark sdi s t, exec (.pinReset straps rxdMark sdi) s = .next t → t.statusByte = 0x00) ∧
  (∀ straps rxdMark s t, exec (.restart straps rxdMark) s = .next t → t.statusByte = 0x80) ∧
  (∀ s : State, s.station.state = .active → s.link.reply.isSome = true → s.attn = true →
    s.link.discarded = false → s.statusByte = 0xA2)

/-- R151: what sets and what clears the DISCARDED flag. A request row is the request at SEL rising, and the bits
sampled on SDI say whether byte 0 completed (notes/assumptions 12, 13). -/
def Obligations.DiscardedFlag : Prop :=
  (∀ (c : Instr) (s : State), c.needsSlot = true → s.link.reply.isSome = true →
    exec c s = .next { s with link := { s.link with discarded := true } }) ∧
  (∀ (byte0 : Byte) (s : State) (x : Transaction), s.link.txn = some x → x.sdi = [] →
    exec (.statusByteClocked byte0) s =
      .next { s with link := { s.link with
        discarded := s.link.discarded && !x.status.getLsbD 6
        txn := some { x with sdi := bitsOf byte0 }
        sdo := bitsOf x.status } }) ∧
  (∀ (straps : BitVec 5) (rxdMark : Bool) (sdi : Bits) (s : State) (x : Transaction), s.link.txn = some x →
    x.sdi.length < 8 →
    bytesOf (x.sdi ++ sdi) = [] ∨ (bytesOf (x.sdi ++ sdi)).head? = some Code.nop →
    ∃ t, exec (.transactionEnd sdi straps rxdMark) s = .next t ∧
      t.link.discarded = (s.link.discarded && !(8 ≤ (x.sdi ++ sdi).length && x.status.getLsbD 6))) ∧
  (∀ (straps : BitVec 5) (rxdMark : Bool) (sdi : Bits) (s : State) (x : Transaction) (code : Byte)
    (params : List Byte), s.link.txn = some x → bytesOf (x.sdi ++ sdi) = code :: params →
    code ≠ Code.nop → code ≠ Code.restart → (s.link.finish x sdi).reply.isSome = true →
    ∃ t, exec (.transactionEnd sdi straps rxdMark) s = .next t ∧ t.link.discarded = true ∧
      UnchangedBut [.link] s t) ∧
  (∀ (straps : BitVec 5) (rxdMark : Bool) (sdi : Bits) (s : State),
    ∃ t u, exec (.pinReset straps rxdMark sdi) s = .next t ∧ t.link.discarded = false ∧
      exec (.restart straps rxdMark) s = .next u ∧ u.link.discarded = false)

/-- R146, R147, R150, R152: a transaction of no complete byte or with NOP in byte 0 sends the status byte, the noted
reply and zeros, each byte most significant bit first, consumes the reply when all its bytes were clocked whole, and
takes nothing. A reply's bytes are the echo, the result code of Table 10-4 and the data (R164). The record of what
SDO sent is the model's (notes/assumptions 17). -/
def Obligations.TransactionEndSettlesReply : Prop :=
  (∀ r : Reply, r.bytes = r.echo ::
    (match r.result with
    | .ok => 0x00
    | .accepted => 0x01
    | .restarted => 0x02
    | .empty => 0x03
    | .cancelled => 0x04
    | .pending => 0x05
    | .finished => 0x06
    | .wrongState => 0x10
    | .badParameter => 0x11
    | .badAddress => 0x12
    | .notActive => 0x13
    | .badDest => 0x14
    | .tooLong => 0x15
    | .badClass => 0x16
    | .peerSilent => 0x17
    | .noSlot => 0x18
    | .unknownHandle => 0x19
    | .malformed => 0x1E
    | .unknownRequest => 0x1F) :: r.data) ∧
  (∀ s : State, exec .nop s = .next s) ∧
  ∀ (straps : BitVec 5) (rxdMark : Bool) (s : State) (x : Transaction) (sdi : Bits), s.link.txn = some x →
    let bits := x.sdi ++ sdi
    bytesOf bits = [] ∨ (bytesOf bits).head? = some 0x00 →
    ∃ t, exec (.transactionEnd sdi straps rxdMark) s = .next t ∧ UnchangedBut [.link] s t ∧
      t.link.txn = none ∧ t.link.selLow = false ∧ t.link.sdo.length = bits.length ∧
      (∀ k < bits.length, t.link.sdo[k]? =
        some ((if k / 8 = 0 then x.status
          else ((x.noted.map Reply.bytes).getD []).getD (k / 8 - 1) 0).getMsbD (k % 8))) ∧
      t.link.reply =
        (match x.noted with
        | none => s.link.reply
        | some r => if 1 + (2 + r.data.length) ≤ bits.length / 8 then none else s.link.reply)

/-- R146, R152, R154, R60: SDI's bits form bytes, most significant bit first, and those of an incomplete byte are
dropped; a transaction that carries a request's bytes, with any padding after them, takes exactly that request, after
the noted reply is settled. A request row is the request at SEL rising (notes/assumptions 12), and RESTART samples
the pins' levels at that instant, which are operands (notes/assumptions 14). -/
def Obligations.TransactionCarriesRequest : Prop :=
  (∀ (bytes : List Byte) (partly : Bits), partly.length < 8 →
    bytesOf (bytes.flatMap (fun b => (List.range 8).map b.getMsbD) ++ partly) = bytes) ∧
  ∀ (c : Instr) (bytes padding : List Byte) (partly sdi : Bits) (straps : BitVec 5) (rxdMark : Bool) (s : State)
    (x : Transaction), c.requestBytes = some bytes → s.link.txn = some x → partly.length < 8 →
    x.sdi ++ sdi = (bytes ++ padding).flatMap (fun b => (List.range 8).map b.getMsbD) ++ partly →
    (∀ straps' rxdMark', c = .restart straps' rxdMark' → straps' = straps ∧ rxdMark' = rxdMark) →
    (∀ dest cls length payload, c = .post dest cls length payload →
      length.toNat ≤ payload.length ∨ 64 < length.toNat) →
    exec (.transactionEnd sdi straps rxdMark) s = exec c { s with link := s.link.finish x sdi }

/-- R152, R154: a code outside Table 10-3 is answered UNKNOWN_REQUEST, a known one with too few parameter bytes
MALFORMED; neither reaches a block. -/
def Obligations.UnknownAndMalformedRequests : Prop :=
  ∀ (straps : BitVec 5) (rxdMark : Bool) (sdi : Bits) (s : State) (x : Transaction) (code : Byte)
    (params : List Byte), s.link.txn = some x → bytesOf (x.sdi ++ sdi) = code :: params →
    (s.link.finish x sdi).reply = none →
    (code ∉ requestCodes →
      exec (.transactionEnd sdi straps rxdMark) s =
        .next { s with link := { s.link.finish x sdi with reply := some ⟨code, .unknownRequest, []⟩ } }) ∧
    (code ∈ requestCodes → params.length < parametersNeeded code params →
      exec (.transactionEnd sdi straps rxdMark) s =
        .next { s with link := { s.link.finish x sdi with reply := some ⟨code, .malformed, []⟩ } })

/-! ### The station controller's requests -/

/-- R156, R141, R142: ATTN is asserted exactly while an attention reason holds with its mask bit on. STATUS replies
with the ten items of Table 10-5 and clears both flags; ATTN is then asserted only for the outcome and the inbound
reason. -/
def Obligations.StatusReportsAndClears : Prop :=
  (∀ s : State, s.attn = true ↔
    (s.station.config.mask.outcome = true ∧ s.outcomes.queue ≠ []) ∨
    (s.station.config.mask.inbound = true ∧ s.inbound.records ≠ []) ∨
    (s.station.config.mask.state = true ∧ s.station.stateChange = true) ∨
    (s.station.config.mask.conflict = true ∧ s.station.conflict = true)) ∧
  ∀ s : State, s.link.reply = none →
    ∃ t, exec .status s = .next t ∧ UnchangedBut [.station, .link] s t ∧
      t.station = { s.station with stateChange := false, conflict := false } ∧
      t.link = { s.link with reply := some ⟨0x01, .ok,
        [(match s.station.state with
          | .unjoined => 0
          | .joining => 1
          | .active => 2
          | .leaving => 3
          | .lineFault => 4),
          (match s.station.faultReason with
          | .none => 0
          | .addressInUse => 1
          | .lineStuck => 2
          | .collisions => 3),
          flagByte s.station.stateChange,
          flagByte s.station.conflict, flagByte s.inbound.h, byte s.inbound.records.length,
          byte s.outcomes.queue.length,
          byte ((List.range 48).countP fun i => (s.slot i).msg = none),
          byte s.station.address, byte s.station.epoch]⟩ } ∧
      (t.attn = true ↔
        (s.station.config.mask.outcome = true ∧ s.outcomes.queue ≠ []) ∨
        (s.station.config.mask.inbound = true ∧ s.inbound.records ≠ []))

/-- R40, R155, R2: CONFIGURE is refused outside UNJOINED and when a field is out of range; otherwise it replaces the
whole record and re-evaluates H; with a new rate code a character being received is abandoned. That
the length of the idle period stands, in ct, is the model's choice (notes/assumptions 11). -/
def Obligations.ConfigureReplacesRecord : Prop :=
  ∀ (rate attempts retryBase beacon holdTime holdLevel resumeLevel mask : Byte) (s : State),
    s.link.reply = none →
    let command := Instr.configure rate attempts retryBase beacon holdTime holdLevel resumeLevel mask
    let inRange := rate.toNat ≤ 7 ∧ (1 ≤ attempts.toNat ∧ attempts.toNat ≤ 15) ∧ 1 ≤ retryBase.toNat ∧
      (1 ≤ beacon.toNat ∧ beacon.toNat ≤ 50) ∧ 1 ≤ holdTime.toNat ∧
      (1 ≤ holdLevel.toNat ∧ holdLevel.toNat ≤ 32) ∧ resumeLevel.toNat < holdLevel.toNat ∧ mask.toNat < 16
    (s.station.state ≠ .unjoined →
      exec command s = .next { s with link := { s.link with reply := some ⟨0x02, .wrongState, []⟩ } }) ∧
    (s.station.state = .unjoined → ¬ inRange →
      exec command s = .next { s with link := { s.link with reply := some ⟨0x02, .badParameter, []⟩ } }) ∧
    (s.station.state = .unjoined → inRange →
      ∃ t, exec command s = .next t ∧ UnchangedBut [.line, .station, .inbound, .link] s t ∧
        t.line = { s.line with receiver :=
          if rate.toNat = s.station.config.rate then s.line.receiver
          else match s.line.receiver with
            | .receiving _ _ => .waiting
            | r => r } ∧
        t.link = { s.link with reply := some ⟨0x02, .accepted, []⟩ } ∧
        t.station = { s.station with
          config := ⟨rate.toNat, attempts.toNat, retryBase.toNat, beacon.toNat, holdTime.toNat,
            holdLevel.toNat, resumeLevel.toNat,
            ⟨mask.getLsbD 0, mask.getLsbD 1, mask.getLsbD 2, mask.getLsbD 3⟩⟩
          notices := { s.station.notices with hold := t.station.notices.hold } } ∧
        (s.station.notices.hold = false → t.station.notices.hold = false) ∧
        t.inbound.records = s.inbound.records ∧
        t.inbound.h =
          (if holdLevel.toNat ≤ s.inbound.records.length then true
          else if s.inbound.records.length ≤ resumeLevel.toNat then false
          else s.inbound.h))

/-- R42, R43, R6: JOIN is refused outside UNJOINED and with the address 0 or 31; otherwise the peer table is
cleared, an epoch other than the previous one is drawn, and the station listens in JOINING. -/
def Obligations.JoinStartsListening : Prop :=
  ∀ s : State, s.link.reply = none →
    (s.station.state ≠ .unjoined →
      exec .join s = .next { s with link := { s.link with reply := some ⟨0x03, .wrongState, []⟩ } }) ∧
    (s.station.state = .unjoined → s.station.address = 0 ∨ s.station.address = 31 →
      exec .join s = .next { s with link := { s.link with reply := some ⟨0x03, .badAddress, []⟩ } }) ∧
    (s.station.state = .unjoined → 1 ≤ s.station.address → s.station.address ≤ 30 →
      s.station.notices = NoticeSet.empty →
      ∃ t epoch, exec .join s = .next t ∧
        UnchangedBut [.line, .access, .station, .peers, .link, .generator] s t ∧
        epoch < 16 ∧ s.station.prevEpoch ≠ some epoch ∧ t.generator = s.generator + 1 ∧
        t.station = { s.station with
          state := .joining
          epoch := epoch
          prevEpoch := some epoch
          faultReason := .none
          beacon := .stopped
          renewal := .runOut
          listen := .running (s.station.config.beacon * 100) } ∧
        (∀ a ∈ List.range' 1 30, t.peer a = PeerRecord.initial) ∧
        t.line = { s.line with burst := s.line.burst.map fun b => { b with ignored := true } } ∧
        t.access = ⟨.idle, 0, none, none, none, false, s.line.burst.isSome, false⟩ ∧
        t.link = { s.link with reply := some ⟨0x03, .accepted, []⟩ })

/-- R51, R52: LEAVE in ACTIVE with DRAIN takes the station into LEAVING and touches no message; the LEAVE notice
is placed at once when every destination queue is empty. That the notice is placed inside the command is read from
R117 (notes/assumptions 16). -/
def Obligations.LeaveDrains : Prop :=
  ∀ s : State, s.link.reply = none → s.station.state = .active →
    ∃ t, exec (.leave 0) s = .next t ∧ UnchangedBut [.access, .station, .link] s t ∧
      t.link = { s.link with reply := some ⟨0x04, .accepted, []⟩ } ∧
      t.station = { s.station with
        state := .leaving
        leaveMode := some .drain
        notices := { s.station.notices with
          hold := t.holdCondition
          leave := s.station.notices.leave || decide (∀ d ∈ List.range' 1 31, s.queue d = []) } } ∧
      t.access = { s.access with state := t.access.state } ∧
      t.access.state =
        (if s.access.state = .idle ∧ t.wantsLine = true then (if s.lineIdle = true then .gap else .defer)
        else s.access.state)

/-- R51, R90, R93, R54: LEAVE in ACTIVE with ABANDON, and ABANDON in a draining LEAVING, resolve every waiting
message ABANDONED, destination 1 first and each queue head first; a message in flight stays with the mark ABANDONED,
or with the one it had. -/
def Obligations.LeaveAbandons : Prop :=
  ∀ s : State, s.link.reply = none → StoreConsistent s →
    s.station.state = .active ∨ (s.station.state = .leaving ∧ s.station.leaveMode = some .drain) →
    ∃ t, exec (.leave 1) s = .next t ∧ UnchangedBut [.access, .station, .outbound, .outcomes, .link] s t ∧
      t.link = { s.link with reply := some ⟨0x04, .accepted, []⟩ } ∧
      t.station.state = .leaving ∧ t.station.leaveMode = some .abandon ∧
      t.station = { s.station with
        state := .leaving
        leaveMode := some .abandon
        notices := { s.station.notices with
          hold := t.station.notices.hold
          leave := t.station.notices.leave } } ∧
      t.owedOutcomes = s.owedOutcomes ++ destinations.flatMap (s.bulkOutcomes .abandoned) ∧
      (∀ d ∈ destinations, ∀ i ∈ t.queue d, i ∈ s.queue d) ∧
      ∀ d ∈ destinations, LeavesMarked s t .abandoned d

/-- R54, R53, R155: LEAVE outside ACTIVE, and with a mode that is neither DRAIN nor ABANDON. -/
def Obligations.LeaveElsewhere : Prop :=
  ∀ (mode : Byte) (s : State), s.link.reply = none →
    let answered := fun r => exec (.leave mode) s =
      .next { s with link := { s.link with reply := some ⟨0x04, r, []⟩ } }
    (mode ≠ 0 → mode ≠ 1 → answered .badParameter) ∧
    (mode = 0 ∨ mode = 1 →
      (s.station.state = .unjoined → answered .wrongState) ∧
      (s.station.state = .joining → s.access.state = .sending →
        exec (.leave mode) s = .next { s with
          station := { s.station with leavePending := true }
          link := { s.link with reply := some ⟨0x04, .accepted, []⟩ } }) ∧
      (s.station.state = .joining → s.access.state ≠ .sending → s.access.state ≠ .awaitReply →
        ∃ t, exec (.leave mode) s = .next t ∧ UnchangedBut [.access, .station, .peers, .link] s t ∧
          t.link = { s.link with reply := some ⟨0x04, .accepted, []⟩ } ∧
          t.station = { s.station with
            state := .unjoined
            notices := NoticeSet.empty
            listen := .stopped
            beacon := .stopped
            leaveMode := none
            leavePending := false } ∧
          PeersKept s t ∧
          t.access = ⟨.off, 0, none, none, none, false, false, false⟩) ∧
      (s.station.state = .lineFault → s.access.state = .off → StoreConsistent s →
        ∃ t, exec (.leave mode) s = .next t ∧
          UnchangedBut [.access, .station, .peers, .outbound, .outcomes, .link] s t ∧
          t.link = { s.link with reply := some ⟨0x04, .accepted, []⟩ } ∧
          t.station.state = .unjoined ∧ t.station.faultReason = s.station.faultReason ∧
          t.station.stateChange = s.station.stateChange ∧ t.station.notices = NoticeSet.empty ∧
          t.access.state = .off ∧ PeersKept s t ∧
          t.owedOutcomes = s.owedOutcomes ++ destinations.flatMap (s.bulkOutcomes .abandoned)) ∧
      (s.station.state = .leaving → mode = 0 ∨ s.station.leaveMode ≠ some .drain → answered .accepted))

/-! ### The outbound store's requests -/

/-- R87, R80, R84, R22: an accepted POST takes the lowest-numbered FREE slot with its next tag, writes the record and
appends the slot to its queue; an IDLE access controller contends if the station now wants the line. -/
def Obligations.PostTakesLowestSlot : Prop :=
  ∀ (dest cls length : Byte) (payload : List Byte) (s : State) (i : Nat), s.link.reply = none →
    s.station.state = .active ∨ s.station.state = .lineFault →
    1 ≤ dest.toNat → dest.toNat ≤ 31 → dest.toNat ≠ s.station.address →
    length.toNat ≤ 64 → length.toNat ≤ payload.length → cls.toNat ≤ 1 → ¬ (cls = 0 ∧ dest = 31) →
    (dest ≠ 31 → (s.peer dest.toNat).presence ≠ .silent) →
    i < 48 → (s.slot i).msg = none → (∀ j < i, (s.slot j).msg ≠ none) →
    ∃ t, exec (.post dest cls length payload) s = .next t ∧ UnchangedBut [.access, .outbound, .link] s t ∧
      (t.slot i).msg = some ⟨dest.toNat, if cls = 0 then .acked else .datagram, payload.take length.toNat, 0,
        none, .queued⟩ ∧
      (t.slot i).tag = (if (s.slot i).tag = 0 ∨ (s.slot i).tag = 255 then 1 else (s.slot i).tag + 1) ∧
      (∀ j, j ≠ i → t.slot j = s.slot j) ∧ t.queue dest.toNat = s.queue dest.toNat ++ [i] ∧
      (∀ d, d ≠ dest.toNat → t.queue d = s.queue d) ∧
      t.link = { s.link with reply := some ⟨0x10, .ok, [byte i, byte (t.slot i).tag]⟩ } ∧
      t.access = { s.access with state := t.access.state } ∧
      t.access.state =
        (if s.access.state = .idle ∧ t.wantsLine = true then (if s.lineIdle = true then .gap else .defer)
        else s.access.state) ∧
      IdleWantsNothing t

/-- R86: a POST is refused outside ACTIVE and LINE_FAULT, and in them by the first check that fails; a refused
POST changes nothing but the reply. One that meets every check is taken. -/
def Obligations.PostChecksInOrder : Prop :=
  ∀ (dest cls length : Byte) (payload : List Byte) (s : State), s.link.reply = none →
    (length.toNat ≤ 64 → length.toNat ≤ payload.length) →
    let refused := fun r => exec (.post dest cls length payload) s =
      .next { s with link := { s.link with reply := some ⟨0x10, r, []⟩ } }
    let taken := s.station.state = .active ∨ s.station.state = .lineFault
    let badDest := dest = 0 ∨ 31 < dest.toNat ∨ dest.toNat = s.station.address
    let tooLong := 64 < length.toNat
    let badClass := 1 < cls.toNat ∨ (cls = 0 ∧ dest = 31)
    let silent := dest ≠ 31 ∧ (s.peer dest.toNat).presence = .silent
    (¬ taken → refused .notActive) ∧
    (taken → badDest → refused .badDest) ∧
    (taken → ¬ badDest → tooLong → refused .tooLong) ∧
    (taken → ¬ badDest → ¬ tooLong → badClass → refused .badClass) ∧
    (taken → ¬ badDest → ¬ tooLong → ¬ badClass → silent → refused .peerSilent) ∧
    (taken → ¬ badDest → ¬ tooLong → ¬ badClass → ¬ silent → (∀ i < 48, (s.slot i).msg ≠ none) →
      refused .noSlot) ∧
    (taken → ¬ badDest → ¬ tooLong → ¬ badClass → ¬ silent → (∃ i < 48, (s.slot i).msg = none) →
      ∃ t, exec (.post dest cls length payload) s = .next t ∧ t.link.reply.map Reply.result = some .ok)

/-- R89, R92, R137: CANCEL by the slot the handle names. -/
def Obligations.CancelBySlotState : Prop :=
  ∀ (slot tag : Byte) (s : State), s.link.reply = none →
    let i := slot.toNat
    let answered := fun r => exec (.cancel slot tag) s =
      .next { s with link := { s.link with reply := some ⟨0x11, r, []⟩ } }
    (48 ≤ i ∨ tag = 0 ∨ (s.slot i).msg = none ∨ (s.slot i).tag ≠ tag.toNat → answered .unknownHandle) ∧
    ∀ m, i < 48 → tag ≠ 0 → (s.slot i).tag = tag.toNat → (s.slot i).msg = some m →
      (∀ r, m.state = .done r → answered .finished) ∧
      (∀ mark, m.state = .onLine mark →
        exec (.cancel slot tag) s = .next ((s.setSlot i
          ⟨(s.slot i).tag, some { m with state := .onLine (some (mark.getD .cancelled)) }⟩).modLink
            fun l => { l with reply := some ⟨0x11, .pending, []⟩ })) ∧
      (∀ mark, m.state = .awaitReply mark →
        exec (.cancel slot tag) s = .next ((s.setSlot i
          ⟨(s.slot i).tag, some { m with state := .awaitReply (some (mark.getD .cancelled)) }⟩).modLink
            fun l => { l with reply := some ⟨0x11, .pending, []⟩ })) ∧
      (m.state = .queued ∨ (∃ ms, m.state = .retryWait ms) → StoreConsistent s →
        ∃ t, exec (.cancel slot tag) s = .next t ∧
          UnchangedBut [.access, .station, .outbound, .outcomes, .link] s t ∧
          t.link = { s.link with reply := some ⟨0x11, .cancelled, []⟩ } ∧
          t.owedOutcomes = s.owedOutcomes ++ [s.outcomeOf .cancelled i m] ∧
          (∀ d, t.queue d = (s.queue d).filter fun j => j ≠ i) ∧ (∀ j, j ≠ i → t.slot j = s.slot j) ∧
          t.station = { s.station with
            notices := { s.station.notices with leave := t.station.notices.leave } })

/-! ### The other requests -/

/-- R128, R129, R22: FETCH removes the oldest record and replies with it, in every station state; H becomes 0 at or
below the resume level, and a change of H re-evaluates the HOLD notice, for which an IDLE access controller
contends. -/
def Obligations.FetchTakesOldest : Prop :=
  (∀ s : State, s.link.reply = none → s.inbound.records = [] →
    exec .fetch s = .next { s with link := { s.link with reply := some ⟨0x20, .empty, []⟩ } }) ∧
  ∀ (s : State) (r : Received) (rest : List Received), s.link.reply = none →
    s.inbound.records = r :: rest →
    ∃ t, exec .fetch s = .next t ∧ UnchangedBut [.access, .station, .inbound, .link] s t ∧
      t.inbound.records = rest ∧
      t.inbound.h = (if rest.length ≤ s.station.config.resumeLevel then false else s.inbound.h) ∧
      t.link = { s.link with reply := some ⟨0x20, .ok,
        [byte r.source, byte ((if r.cls = .acked then 0 else 1) + (if r.broadcast then 2 else 0)),
          byte r.payload.length] ++ r.payload⟩ } ∧
      t.station = { s.station with notices := { s.station.notices with hold :=
        if t.inbound.h = s.inbound.h then s.station.notices.hold else t.holdCondition } } ∧
      t.access = { s.access with state := t.access.state } ∧
      t.access.state =
        (if s.access.state = .idle ∧ t.wantsLine = true then (if s.lineIdle = true then .gap else .defer)
        else s.access.state)

/-- R139, R138, R165: TAKE OUTCOMES replies with the oldest records, in the layout of Table 10-6, and the waiting
outcomes move into the room; the host is owed the rest in the same order. -/
def Obligations.TakeOutcomesInOrder : Prop :=
  ∀ (max : Byte) (s : State), s.link.reply = none →
    (max.toNat < 1 ∨ 8 < max.toNat →
      exec (.takeOutcomes max) s =
        .next { s with link := { s.link with reply := some ⟨0x21, .badParameter, []⟩ } }) ∧
    (1 ≤ max.toNat → max.toNat ≤ 8 → s.outcomes.queue = [] →
      exec (.takeOutcomes max) s =
        .next { s with link := { s.link with reply := some ⟨0x21, .empty, []⟩ } }) ∧
    (1 ≤ max.toNat → max.toNat ≤ 8 → s.outcomes.queue ≠ [] → StoreConsistent s →
      let k := min max.toNat s.outcomes.queue.length
      ∃ t, exec (.takeOutcomes max) s = .next t ∧ UnchangedBut [.outbound, .outcomes, .link] s t ∧
        t.link = { s.link with reply := some ⟨0x21, .ok,
          byte k :: (s.outcomes.queue.take k).flatMap fun o => [byte o.slot, byte o.tag, byte o.dest,
            (match o.result with
            | .delivered => 1
            | .sent => 2
            | .noAck => 3
            | .peerSilent => 4
            | .cancelled => 5
            | .abandoned => 6),
            byte o.attempts]⟩ } ∧
        t.owedOutcomes = s.owedOutcomes.drop k ∧ t.outcomes.waiting = s.outcomes.waiting.drop k ∧
        (t.outcomes.queue.length < 16 → t.outcomes.waiting = []) ∧ (∀ d, t.queue d = s.queue d) ∧
        (∀ i, t.slot i =
          if i ∈ s.outcomes.waiting.take k then ⟨(s.slot i).tag, none⟩ else s.slot i))

/-- R77, R165: READ PEER, in every station state. -/
def Obligations.ReadPeerShowsRecord : Prop :=
  ∀ (address : Byte) (s : State), s.link.reply = none →
    let a := address.toNat
    (a = 0 ∨ 30 < a ∨ a = s.station.address →
      exec (.readPeer address) s =
        .next { s with link := { s.link with reply := some ⟨0x30, .badDest, []⟩ } }) ∧
    (1 ≤ a → a ≤ 30 → a ≠ s.station.address →
      let p := s.peer a
      let remaining := fun timer : Timer =>
        match timer with
        | .running ms => ms
        | _ => 0
      exec (.readPeer address) s = .next { s with link := { s.link with reply := some ⟨0x30, .ok,
        [(match p.presence with
          | .unknown => 0
          | .present => 1
          | .silent => 2),
          byte (remaining p.presenceTimer / 256), byte (remaining p.presenceTimer),
          if p.held then 1 else 0, byte (remaining p.holdTimer / 256), byte (remaining p.holdTimer),
          byte ((if p.epoch.isSome then 1 else 0) + (if p.lastAccepted.isSome then 2 else 0)),
          byte (p.epoch.getD 0), byte (p.lastAccepted.getD 0), byte p.nextTx,
          byte (s.queue a).length]⟩ } })

/-- R144: READ COUNTERS with its clear option; an event is in the reply or in the counter after it, and a reply
that a RESTART replaces is lost with its counts. An event adds one to its counter, which stays at 65535, and to no
other (R143). -/
def Obligations.ReadCountersLosesNothing : Prop :=
  (∀ (s : State) (k : CounterName),
    UnchangedBut [.counters] s (s.count k) ∧ (s.count k).counters = s.counters.bump k ∧
      (s.counters.value k < 65535 → (s.counters.bump k).value k = s.counters.value k + 1) ∧
      (s.counters.value k = 65535 → (s.counters.bump k).value k = 65535) ∧
      ∀ j, j ≠ k → (s.counters.bump k).value j = s.counters.value j) ∧
  ∀ (clear : Byte) (s : State), s.link.reply = none →
    let values := [s.counters.framesSent, s.counters.framesHeard, s.counters.crcErrors,
      s.counters.framingErrors, s.counters.malformed, s.counters.collisions, s.counters.duplicates,
      s.counters.refusalsSent, s.counters.droppedDatagrams, s.counters.strayReplies,
      s.counters.addressConflicts]
    let bytes := values.flatMap fun n => [byte (n / 256), byte n]
    (2 ≤ clear.toNat →
      exec (.readCounters clear) s =
        .next { s with link := { s.link with reply := some ⟨0x31, .badParameter, []⟩ } }) ∧
    (clear = 0 →
      exec (.readCounters clear) s =
        .next { s with link := { s.link with reply := some ⟨0x31, .ok, bytes⟩ } }) ∧
    (clear = 1 →
      exec (.readCounters clear) s = .next { s with
        counters := ⟨0, 0, 0, 0, 0, 0, 0, 0, 0, 0, 0⟩
        link := { s.link with reply := some ⟨0x31, .ok, bytes⟩ } }) ∧
    (∀ (k : CounterName) (t : State), clear = 1 → exec (.readCounters clear) s = .next t →
      (t.count k).counters.value k = 1 ∧ ∀ j, j ≠ k → (t.count k).counters.value j = 0) ∧
    (∀ (straps : BitVec 5) (rxdMark : Bool) (t : State), exec (.readCounters clear) s = .next t →
      ∃ u, exec (.restart straps rxdMark) t = .next u ∧ (∀ k, u.counters.value k = 0) ∧
        u.link.reply = some ⟨0x0F, .restarted, []⟩)

/-! ### Access to the line -/

/-- R4, R5, R24, R26, R31, R35: activity begins a burst unless one is under way, sends GAP and DRAW to DEFER without
their draw, occupies an open reply window, and starts the stuck-line count except in OFF. While this station drives,
its own burst is under way, and that the line then stands is the model's choice (notes/assumptions 9); so is that an
ACTIVITY_START with no levels is RXD's fall to space (notes/assumptions 8), and that an END_OF_FRAME without a burst
under way stands for the activity it ends and for the end of that (notes/assumptions 7), and that a burst held which
shows more than 1 ct of idle gives way to a new one (notes/assumptions 21). -/
def Obligations.ActivityDefers : Prop :=
  (∀ (rxd : Levels) (s : State),
    ∃ t, exec (.activityStart rxd) s = .next t ∧ UnchangedBut [.line, .access] s t ∧
      (s.de = true → t.line = s.line) ∧
      (s.de = false → rxd = [] → t.lineIdle = false) ∧
      (∀ b, s.de = false → s.line.burst = some b → s.line.over = false →
        t.line = s.line.hearAll (if rxd = [] ∧ s.lineIdle = true then [false] else rxd) ∧
        (rxd = [] → t.line.burst = some b) ∧
        t.line.burst.map Burst.own = some b.own ∧ t.line.burst.map Burst.ignored = some b.ignored) ∧
      (s.de = false → s.line.burst = none ∨ s.line.over = true →
        t.line = Line.hearAll { s.line with
          quiet := 0
          burst := some ⟨false, s.station.state = .unjoined, [], 0, false⟩ }
            (if rxd = [] ∧ s.lineIdle = true then [false] else rxd) ∧
        (rxd = [] → t.line.burst = some ⟨false, s.station.state = .unjoined, [], 0, false⟩) ∧
        t.line.burst.map Burst.own = some false ∧
        t.line.burst.map Burst.ignored = some (decide (s.station.state = .unjoined))) ∧
      (s.access.state = .off → t.access = s.access) ∧
      (s.access.state = .gap ∨ s.access.state = .draw →
        t.access = { s.access with state := .defer, draw := none, stuck := true }) ∧
      (s.access.state = .awaitReply → t.access = { s.access with occupied := true, stuck := true }) ∧
      (s.access.state ∉ [.off, .gap, .draw, .awaitReply] → t.access = { s.access with stuck := true })) ∧
  ∀ (rxd : Levels) (s : State), s.de = false → s.line.burst = none →
    ∃ t, exec (.activityStart rxd) s = .next t ∧ t.de = false ∧ t.line.burst.isSome = true ∧
      exec (.endOfFrame rxd) s = exec (.endOfFrame []) t

/-- R24, R25: at 6 ct of idle GAP takes the next value of the generator and makes from it a draw of 0 to 2^k − 1
slots; every value of the range can be drawn; outside GAP nothing happens. That an event which cannot arise here
changes nothing is the model's choice (notes/assumptions 6), and so is how a value makes a draw (notes/assumptions
4). -/
def Obligations.GapTakesDraw : Prop :=
  (∀ s : State, s.access.state ≠ .gap → exec .accessGapComplete s = .next s) ∧
  (∀ s : State, s.access.state = .gap →
    ∃ t, exec .accessGapComplete s = .next t ∧ UnchangedBut [.line, .access, .generator] s t ∧
      t.access = { s.access with
        state := .draw
        draw := some (drawOf s.access.n (Config.generatorValue s.generator)) } ∧
      drawOf s.access.n (Config.generatorValue s.generator) < 2 ^ min (s.access.n + 2) 8 ∧
      t.generator = s.generator + 1 ∧ t.line = { s.line with quiet := t.line.quiet } ∧
      (s.lineIdle = true → 6 * 20 ≤ t.line.quiet)) ∧
  (∀ n d, d < 2 ^ min (n + 2) 8 → ∃ value, drawOf n value = d)

/-- R100, R27, R10, R22: a win with a notice pending drives the first one in the order LEAVE, JOIN, HOLD, BEACON;
with no notice and no eligible head the station goes to IDLE and sends nothing; outside DRAW there is no win. That
an event which cannot arise here changes nothing is the model's choice (notes/assumptions 6). -/
def Obligations.WinSendsNotice : Prop :=
  (∀ s : State, s.access.state ≠ .draw → exec .lineWin s = .next s) ∧
  ∀ s : State, s.access.state = .draw →
    (∀ r : Reason,
      (r = .leave ∧ s.station.notices.leave = true) ∨
      (r = .join ∧ s.station.notices.leave = false ∧ s.station.notices.join = true) ∨
      (r = .hold ∧ s.station.notices.leave = false ∧ s.station.notices.join = false ∧
        s.station.notices.hold = true) ∨
      (r = .beacon ∧ s.station.notices = ⟨false, true, false, false⟩) →
      ∃ t, exec .lineWin s = .next t ∧ UnchangedBut [.line, .access, .engine] s t ∧
        t.engine = { s.engine with inFlight := .notice r } ∧
        t.access = { s.access with
          state := .sending
          frame := some ⟨.notice r, 31, s.inbound.h, s.station.address, s.station.epoch, 0, []⟩
          draw := none
          stuck := true } ∧
        t.de = true ∧ t.line = { s.line with quiet := t.line.quiet, burst := t.line.burst } ∧
        t.line.burst.map Burst.own = some true) ∧
    (s.station.notices = NoticeSet.empty → (∀ d ∈ destinations, s.eligible d = false) →
      ∃ t, exec .lineWin s = .next t ∧ UnchangedBut [.line, .access] s t ∧
        t.access = { s.access with state := .idle, draw := none } ∧ t.de = false ∧
        t.line.burst = s.line.burst)

/-- R98, R22, R101, R102, R103, R8, R75: what makes a head eligible and when the station wants the line; a win
without notices drives the first eligible head after last served, which takes its sequence if it is ACKED and has
none, and becomes ON_LINE. -/
def Obligations.WinSendsNextHead : Prop :=
  destinations = List.range' 1 31 ∧
  (∀ (s : State) (d : Nat), s.eligible d = true ↔
    (s.station.state = .active ∨ s.station.state = .leaving) ∧
      (∃ i rest m, s.queue d = i :: rest ∧ (s.slot i).msg = some m ∧ m.state = .queued) ∧
      (d = 31 ∨ (s.peer d).held = false)) ∧
  (∀ s : State, s.wantsLine = true ↔
    s.station.notices ≠ ⟨false, false, false, false⟩ ∨ ∃ d, 1 ≤ d ∧ d ≤ 31 ∧ s.eligible d = true) ∧
  ∀ (s : State) (d i : Nat) (rest : List Nat) (m : Message), s.access.state = .draw →
    s.station.notices = NoticeSet.empty → s.engine.lastServed ≤ 31 → d ∈ destinations →
    s.eligible d = true →
    (∀ e ∈ destinations, s.eligible e = true →
      (d + 30 - s.engine.lastServed) % 31 ≤ (e + 30 - s.engine.lastServed) % 31) →
    s.queue d = i :: rest → (s.slot i).msg = some m → m.dest = d → m.cls = .datagram ∨ d ≤ 30 →
    let takes := m.cls = .acked ∧ m.seq = none
    let seq := if takes then some (s.peer d).nextTx else m.seq
    ∃ t, exec .lineWin s = .next t ∧
      UnchangedBut [.line, .access, .peers, .outbound, .engine] s t ∧
      t.engine = ⟨d, .message i⟩ ∧
      t.slot i = ⟨(s.slot i).tag, some { m with seq := seq, state := .onLine none }⟩ ∧
      (∀ j, j ≠ i → t.slot j = s.slot j) ∧ (∀ e, t.queue e = s.queue e) ∧
      (∀ a, a ≠ d → t.peer a = s.peer a) ∧
      t.peer d = (if takes then { s.peer d with nextTx := ((s.peer d).nextTx + 1) % 256 } else s.peer d) ∧
      t.access = { s.access with
        state := .sending
        frame := some ⟨m.cls.frameKind, d, s.inbound.h, s.station.address, s.station.epoch,
          if m.cls = .acked then seq.getD 0 else 0, m.payload⟩
        draw := none
        stuck := true } ∧
      t.de = true ∧ t.line = { s.line with quiet := t.line.quiet, burst := t.line.burst } ∧
      t.line.burst.map Burst.own = some true

/-- R17, R3: from a line at mark, a readback in which every character comes back is complete, one that stops early
holds, and the first character whose start bit does not begin with it, or in which some sample in the middle of a bit
differs, fails it. The readback is the operand of the frame's end, and that one which showed only mark for more than
1 ct leaves no burst held is the model's choice (notes/assumptions 9). -/
def Obligations.ReadbackFindsFirstFault : Prop :=
  (∀ l : Line, l.released = if l.idle = true ∧ 20 < l.quiet then { l with burst := none } else l) ∧
  ∀ l : Line, l.rxd = true → l.receiver = .waiting →
    (∀ bytes : List Byte, (l.compare bytes (levelsOf bytes)).2 = .complete) ∧
    (∀ (before : List Byte) (b : Byte) (rest : List Byte) (cells : Levels), cells.length < 20 →
      (l.compare (before ++ b :: rest) (levelsOf before ++ cells)).2 = .holding) ∧
    (∀ (before : List Byte) (b : Byte) (rest : List Byte) (cells more : Levels), cells.length = 20 →
      let comesBack := cells[0]? = some false ∧ cells[1]? = some false ∧
        (∀ j < 8, cells[2 * j + 3]? = some (b.getLsbD j)) ∧ cells[19]? = some true
      (¬ comesBack → (l.compare (before ++ b :: rest) (levelsOf before ++ (cells ++ more))).2 = .failed) ∧
      (comesBack → (l.compare (before ++ [b]) (levelsOf before ++ cells)).2 = .complete))

/-- R30, R48, R106, R45, R52, R54: the completion of a notice. A JOIN notice completes the join, or ends it with
a leave pending; a LEAVE notice completes the leave. -/
def Obligations.NoticeCompletes : Prop :=
  ∀ (s : State) (f : Frame) (r : Reason) (rxd : Levels), Drives s .sending f →
    s.engine.inFlight = .notice r → f.kind = .notice r → ReadsBack s f rxd .complete →
    let toActive := r = .join ∧ s.station.state = .joining ∧ s.station.leavePending = false
    let toUnjoined := (r = .join ∧ s.station.state = .joining ∧ s.station.leavePending = true) ∨
      (r = .leave ∧ s.station.state = .leaving)
    ∃ t, exec (.frameComplete rxd) s = .next t ∧ t.engine = { s.engine with inFlight := .none } ∧
      t.counters = s.counters.bump .framesSent ∧ t.line = (s.line.compare f.bytes rxd).1.released ∧
      (s.line.receiver.busy = false → t.lineIdle = true ∧ t.line.quiet = 0) ∧
      t.station.lastSentH = f.h ∧ t.access.n = 0 ∧ t.de = false ∧
      t.station.stateChange = (s.station.stateChange || (toActive ∨ toUnjoined)) ∧
      (toUnjoined →
        UnchangedBut [.line, .access, .station, .peers, .engine, .counters] s t ∧
        t.station.state = .unjoined ∧ t.station.notices = NoticeSet.empty ∧ t.station.beacon = .stopped ∧
        t.station.listen = .stopped ∧ t.station.leaveMode = none ∧ t.station.leavePending = false ∧
        t.access.state = .off ∧ PeersKept s t) ∧
      (¬ toUnjoined →
        UnchangedBut [.line, .access, .station, .engine, .counters] s t ∧
        t.station = { s.station with
          state := if toActive then .active else s.station.state
          stateChange := t.station.stateChange
          lastSentH := f.h
          beacon := .running (s.station.config.beacon * 100)
          renewal :=
            if s.inbound.h then .running (s.station.config.holdTime * 10 / 2) else s.station.renewal
          notices := ⟨s.station.notices.join && r ≠ .join, false, t.holdCondition,
            s.station.notices.leave && r ≠ .leave⟩ } ∧
        t.access = { s.access with
          state := if t.wantsLine then .gap else .idle
          n := 0
          frame := none })

/-- R30, R106, R107, R48, R52: the completion of a message's frame adds an attempt and is reported as every frame's
is: last sent H, the beacon and renewal timers, the BEACON and the HOLD notice. A DATA frame opens the reply window
with the mark kept; a DATAGRAM is resolved SENT, and in LEAVING the LEAVE notice is placed if no queue holds a message
then: that it is placed within this command is read from R117 (DEDUCED, unsafe, notes/assumptions 16). -/
def Obligations.MessageFrameCompletes : Prop :=
  ∀ (s : State) (f : Frame) (i : Nat) (m : Message) (mark : Option Mark) (rxd : Levels),
    SendsMessage s f i m → m.state = .onLine mark → ReadsBack s f rxd .complete →
    let reported := fun t : State => { s.station with
      lastSentH := f.h
      beacon := .running (s.station.config.beacon * 100)
      renewal :=
        if s.inbound.h then .running (s.station.config.holdTime * 10 / 2) else s.station.renewal
      notices := { s.station.notices with beacon := false, hold := t.holdCondition } }
    (m.cls = .acked →
      ∃ t, exec (.frameComplete rxd) s = .next t ∧
        UnchangedBut [.line, .access, .station, .outbound, .counters] s t ∧
        t.counters = s.counters.bump .framesSent ∧ t.line = (s.line.compare f.bytes rxd).1.released ∧
        t.station = reported t ∧
        t.access = { s.access with state := .awaitReply, n := 0, frame := none, occupied := false } ∧
        t.slot i = ⟨(s.slot i).tag,
          some { m with attempts := m.attempts + 1, state := .awaitReply mark }⟩ ∧
        (∀ j, j ≠ i → t.slot j = s.slot j) ∧ (∀ d, t.queue d = s.queue d)) ∧
    (m.cls = .datagram → StoreConsistent s →
      ∃ t, exec (.frameComplete rxd) s = .next t ∧
        UnchangedBut [.line, .access, .station, .outbound, .engine, .outcomes, .counters] s t ∧
        t.counters = s.counters.bump .framesSent ∧ t.line = (s.line.compare f.bytes rxd).1.released ∧
        t.engine = { s.engine with inFlight := .none } ∧
        t.station = { reported t with notices := { (reported t).notices with leave := t.station.notices.leave } } ∧
        (t.station.notices.leave = true ↔ s.station.notices.leave = true ∨
          (s.station.state = .leaving ∧ ∀ d ∈ destinations, t.queue d = [])) ∧
        t.owedOutcomes = s.owedOutcomes ++ [⟨i, (s.slot i).tag, m.dest, .sent, m.attempts + 1⟩] ∧
        (∀ d, t.queue d = (s.queue d).filter fun j => j ≠ i) ∧ (∀ j, j ≠ i → t.slot j = s.slot j) ∧
        t.access = { s.access with
          state := if t.wantsLine then .gap else .idle
          n := 0
          frame := none })

/-- R28, R105, R54: a collision below the limit counts, releases DE, defers and leaves nothing in flight. An unmarked
message returns to QUEUED where it stands with its attempts and sequence, a marked one is resolved with its
mark, a notice stays as the set has it; with a leave pending the collision of the JOIN notice takes the station to
UNJOINED and the access controller to OFF. That the stuck-line count runs on, and that no burst is held, where the
readback showed only mark is the model's choice (notes/assumptions 9). -/
def Obligations.CollisionWithdrawsFrame : Prop :=
  ∀ (s : State) (f : Frame) (rxd : Levels), Drives s .sending f → ReadsBack s f rxd .failed →
    s.access.n < 15 →
    let line := (s.line.compare f.bytes rxd).1.released
    (¬ (s.station.state = .joining ∧ s.station.leavePending = true) →
      (∀ r, s.engine.inFlight = .notice r →
        exec (.collision rxd) s = .next { s with
          line := line
          access := { s.access with state := .defer, frame := none, n := s.access.n + 1 }
          engine := { s.engine with inFlight := .none }
          counters := s.counters.bump .collisions }) ∧
      (∀ i m, SendsMessage s f i m → m.state = .onLine none →
        exec (.collision rxd) s = .next
          { s.setSlot i ⟨(s.slot i).tag, some { m with state := .queued }⟩ with
            line := line
            access := { s.access with state := .defer, frame := none, n := s.access.n + 1 }
            engine := { s.engine with inFlight := .none }
            counters := s.counters.bump .collisions }) ∧
      (∀ i m k, SendsMessage s f i m → m.state = .onLine (some k) → StoreConsistent s →
        ∃ t, exec (.collision rxd) s = .next t ∧
          UnchangedBut [.line, .access, .station, .outbound, .engine, .outcomes, .counters] s t ∧
          t.line = line ∧
          t.access = { s.access with state := .defer, frame := none, n := s.access.n + 1 } ∧
          t.counters = s.counters.bump .collisions ∧ t.engine = { s.engine with inFlight := .none } ∧
          t.owedOutcomes = s.owedOutcomes ++ [s.outcomeOf k.result i m] ∧
          (∀ d, t.queue d = (s.queue d).filter fun j => j ≠ i))) ∧
    (s.station.state = .joining → s.station.leavePending = true → ∀ r, s.engine.inFlight = .notice r →
      ∃ t, exec (.collision rxd) s = .next t ∧
        UnchangedBut [.line, .access, .station, .peers, .engine, .counters] s t ∧ t.line = line ∧
        t.access = ⟨.off, 0, none, none, none, false, false, false⟩ ∧
        t.engine = { s.engine with inFlight := .none } ∧ t.counters = s.counters.bump .collisions ∧
        t.station = { s.station with
          state := .unjoined
          stateChange := true
          notices := NoticeSet.empty
          listen := .stopped
          beacon := .stopped
          leaveMode := none
          leavePending := false } ∧
        PeersKept s t)

/-- R29, R28, R105, R36, R55, R53, R93: the sixteenth collision in a row is counted and withdraws the frame as every
collision does, and takes ACTIVE to LINE_FAULT and JOINING and LEAVING to UNJOINED, with the reason COLLISIONS and n
at 0; in LEAVING every waiting message, an unmarked one just withdrawn too, is resolved ABANDONED. That no burst is
held where the readback showed only mark is the model's choice (notes/assumptions 9). -/
def Obligations.SixteenthCollisionFaults : Prop :=
  ∀ (s : State) (f : Frame) (rxd : Levels), Drives s .sending f → ReadsBack s f rxd .failed →
    s.access.n = 15 →
    s.station.state = .active ∨ s.station.state = .joining ∨ s.station.state = .leaving →
    ∃ t, exec (.collision rxd) s = .next t ∧
      UnchangedBut [.line, .access, .station, .peers, .outbound, .engine, .outcomes, .counters] s t ∧
      t.line = (s.line.compare f.bytes rxd).1.released ∧
      t.counters = s.counters.bump .collisions ∧ t.engine = { s.engine with inFlight := .none } ∧
      t.station.state = (if s.station.state = .active then .lineFault else .unjoined) ∧
      t.station.faultReason = .collisions ∧ t.station.stateChange = true ∧
      t.station.notices = NoticeSet.empty ∧
      t.access = ⟨.off, 0, none, none, none, false, false, s.station.state = .active⟩ ∧
      (s.station.state = .active → t.peers = s.peers ∧
        t.station = { s.station with
          state := .lineFault, faultReason := .collisions, notices := NoticeSet.empty, stateChange := true }) ∧
      (s.station.state ≠ .active → PeersKept s t ∧ t.station = { s.station with
        state := .unjoined
        faultReason := .collisions
        stateChange := true
        notices := NoticeSet.empty
        listen := .stopped
        beacon := .stopped
        leaveMode := none
        leavePending := false }) ∧
      (s.station.state ≠ .leaving →
        (∀ r, s.engine.inFlight = .notice r →
          UnchangedBut [.line, .access, .station, .peers, .engine, .counters] s t) ∧
        (∀ i m, SendsMessage s f i m → m.state = .onLine none →
          UnchangedBut [.line, .access, .station, .peers, .outbound, .engine, .counters] s t ∧
          t.slot i = ⟨(s.slot i).tag, some { m with state := .queued }⟩ ∧
          (∀ j, j ≠ i → t.slot j = s.slot j) ∧ (∀ d, t.queue d = s.queue d)) ∧
        (∀ i m k, SendsMessage s f i m → m.state = .onLine (some k) → StoreConsistent s →
          t.owedOutcomes = s.owedOutcomes ++ [s.outcomeOf k.result i m] ∧
          (∀ d, t.queue d = (s.queue d).filter fun j => j ≠ i) ∧ (∀ j, j ≠ i → t.slot j = s.slot j))) ∧
      (s.station.state = .leaving → StoreConsistent s →
        (∀ r, s.engine.inFlight = .notice r →
          t.owedOutcomes = s.owedOutcomes ++ destinations.flatMap (s.bulkOutcomes .abandoned)) ∧
        (∀ i m, SendsMessage s f i m → m.state = .onLine none →
          let withdrawn := s.setSlot i ⟨(s.slot i).tag, some { m with state := .queued }⟩
          t.owedOutcomes = s.owedOutcomes ++ destinations.flatMap (withdrawn.bulkOutcomes .abandoned)) ∧
        (∀ i m k, SendsMessage s f i m → m.state = .onLine (some k) →
          t.owedOutcomes = s.owedOutcomes ++ s.outcomeOf k.result i m ::
            destinations.flatMap (s.bulkOutcomes .abandoned)))

/-- R33, R34, R48: at 2 ct a pending reply is driven without contention. Its completion is counted and reported
and leaves n; its collision is counted, abandons it and defers. That an event which cannot arise here changes
nothing is the model's choice (notes/assumptions 6), and so is that the stuck-line count runs on, with no burst held,
where a failed readback showed only mark (notes/assumptions 9). -/
def Obligations.ReplyIsSentOnce : Prop :=
  (∀ (s : State) (f : Frame), s.access.reply = some f →
    s.access.state ∈ [.idle, .defer, .gap, .draw] →
    ∃ t, exec .replyGap s = .next t ∧ UnchangedBut [.line, .access] s t ∧
      t.access = { s.access with
        state := .replying, frame := some f, reply := none, draw := none, stuck := true } ∧
      t.de = true ∧ t.line = { s.line with burst := t.line.burst } ∧
      t.line.burst.map Burst.own = some true) ∧
  (∀ s : State, s.access.reply = none → exec .replyGap s = .next s) ∧
  (∀ (s : State) (f : Frame) (rxd : Levels), Drives s .replying f →
    f.kind = .ack ∨ f.kind = .refuse → ReadsBack s f rxd .complete →
    ∃ t, exec (.replyComplete rxd) s = .next t ∧
      UnchangedBut [.line, .access, .station, .counters] s t ∧
      t.counters = s.counters.bump .framesSent ∧ t.line = (s.line.compare f.bytes rxd).1.released ∧
      t.station = { s.station with
        lastSentH := f.h
        beacon := .running (s.station.config.beacon * 100)
        renewal :=
          if s.inbound.h then .running (s.station.config.holdTime * 10 / 2) else s.station.renewal
        notices := { s.station.notices with beacon := false, hold := t.holdCondition } } ∧
      t.access = { s.access with state := if t.wantsLine then .gap else .idle, frame := none }) ∧
  (∀ (s : State) (f : Frame) (rxd : Levels), Drives s .replying f → ReadsBack s f rxd .failed →
    exec (.replyCollision rxd) s = .next { s with
      line := (s.line.compare f.bytes rxd).1.released
      access := { s.access with state := .defer, frame := none }
      counters := s.counters.bump .collisions })

/-- R31, R32, R111, R113, R69: a window that stays idle to 4 ct closes with no reply: a marked message is resolved
with its mark, one at the attempt limit is resolved NO_ACK and its destination made SILENT, any other waits b ×
2^(a − 1) ms, at most 8 × b. An occupied window is not closed by the timeout. That an event which cannot arise
here changes nothing is the model's choice (notes/assumptions 6). -/
def Obligations.WindowTimeoutSettles : Prop :=
  (∀ s : State, s.access.occupied = true ∨ s.access.state ≠ .awaitReply →
    exec .replyWindowTimeout s = .next s) ∧
  ∀ (s : State) (i : Nat) (m : Message) (mark : Option Mark), AwaitsReply s i m mark →
    s.access.occupied = false →
    (∀ k, mark = some k → StoreConsistent s →
      ∃ t, exec .replyWindowTimeout s = .next t ∧
        UnchangedBut [.line, .access, .station, .outbound, .engine, .outcomes] s t ∧
        t.engine = { s.engine with inFlight := .none } ∧
        t.owedOutcomes = s.owedOutcomes ++ [s.outcomeOf k.result i m] ∧
        t.access.state = (if t.wantsLine then .gap else .idle)) ∧
    (mark = none → m.attempts = s.station.config.attemptLimit → StoreConsistent s → m.dest ≤ 30 →
      ∃ t, exec .replyWindowTimeout s = .next t ∧
        UnchangedBut [.line, .access, .station, .peers, .outbound, .engine, .outcomes] s t ∧
        t.engine = { s.engine with inFlight := .none } ∧
        t.owedOutcomes = s.owedOutcomes ++
          s.outcomeOf .noAck i m :: s.bulkOutcomes .peerSilent m.dest ∧
        t.queue m.dest = [] ∧ (∀ d, d ≠ m.dest → t.queue d = s.queue d) ∧
        t.peer m.dest = { s.peer m.dest with presence := .silent, presenceTimer := .stopped } ∧
        (∀ a, a ≠ m.dest → t.peer a = s.peer a) ∧
        t.access.state = (if t.wantsLine then .gap else .idle)) ∧
    (mark = none → m.attempts ≠ s.station.config.attemptLimit →
      ∃ t, exec .replyWindowTimeout s = .next t ∧ UnchangedBut [.line, .access, .outbound, .engine] s t ∧
        t.engine = { s.engine with inFlight := .none } ∧
        t.slot i = ⟨(s.slot i).tag, some { m with
          state := .retryWait
            (min (s.station.config.retryBase * 2 ^ (m.attempts - 1)) (8 * s.station.config.retryBase)) }⟩ ∧
        (∀ j, j ≠ i → t.slot j = s.slot j) ∧ (∀ d, t.queue d = s.queue d) ∧
        t.access.state = (if t.wantsLine then .gap else .idle))

/-- R35, R36, R55, R53, R38, R32, R111: the stuck-line count takes ACTIVE to LINE_FAULT, where the recovery count
starts, and JOINING and LEAVING to UNJOINED, in LEAVING with every waiting message resolved ABANDONED; an open reply
window is first closed with no reply, which settles its message; a station that drives, is in OFF or does not count
never reaches it. That an event which cannot arise here changes nothing is the model's choice (notes/assumptions 6).
-/
def Obligations.StuckLineFaults : Prop :=
  (∀ s : State, s.access.stuck = false ∨ s.access.state = .off ∨ s.de = true →
    exec .stuckLine s = .next s) ∧
  (∀ s : State, s.access.stuck = true → s.access.state ∉ [.off, .sending, .replying, .awaitReply] →
    s.station.state = .active →
    exec .stuckLine s = .next { s with
      station := { s.station with
        state := .lineFault, faultReason := .lineStuck, notices := NoticeSet.empty, stateChange := true }
      access := ⟨.off, 0, none, none, none, false, false, true⟩ }) ∧
  (∀ s : State, s.access.stuck = true → s.access.state ∉ [.off, .sending, .replying, .awaitReply] →
    s.station.state = .joining ∨ s.station.state = .leaving →
    ∃ t, exec .stuckLine s = .next t ∧
      UnchangedBut [.access, .station, .peers, .outbound, .outcomes] s t ∧
      t.station.state = .unjoined ∧ t.station.faultReason = .lineStuck ∧ t.station.stateChange = true ∧
      t.station.notices = NoticeSet.empty ∧ t.station.leaveMode = none ∧ PeersKept s t ∧
      t.access = ⟨.off, 0, none, none, none, false, false, false⟩ ∧
      (s.station.state = .joining → t.outbound = s.outbound ∧ t.outcomes = s.outcomes) ∧
      (s.station.state = .leaving → StoreConsistent s →
        t.owedOutcomes = s.owedOutcomes ++ destinations.flatMap (s.bulkOutcomes .abandoned))) ∧
  (∀ (s : State) (i : Nat) (m : Message) (mark : Option Mark), AwaitsReply s i m mark →
    s.access.stuck = true → s.station.state = .active →
    let faulted := fun t : State =>
      t.station = { s.station with
        state := .lineFault, faultReason := .lineStuck, notices := NoticeSet.empty, stateChange := true } ∧
      t.access = ⟨.off, 0, none, none, none, false, false, true⟩ ∧
      t.engine = { s.engine with inFlight := .none }
    (mark = none → m.attempts ≠ s.station.config.attemptLimit →
      ∃ t, exec .stuckLine s = .next t ∧ UnchangedBut [.access, .station, .outbound, .engine] s t ∧
        faulted t ∧
        t.slot i = ⟨(s.slot i).tag,
          some { m with state := .retryWait (s.station.config.retryMs m.attempts) }⟩ ∧
        (∀ j, j ≠ i → t.slot j = s.slot j) ∧ (∀ d, t.queue d = s.queue d)) ∧
    (∀ k, mark = some k → StoreConsistent s →
      ∃ t, exec .stuckLine s = .next t ∧
        UnchangedBut [.access, .station, .outbound, .engine, .outcomes] s t ∧ faulted t ∧
        t.owedOutcomes = s.owedOutcomes ++ [s.outcomeOf k.result i m] ∧
        (∀ d, t.queue d = (s.queue d).filter fun j => j ≠ i) ∧ (∀ j, j ≠ i → t.slot j = s.slot j)) ∧
    (mark = none → m.attempts = s.station.config.attemptLimit → StoreConsistent s → m.dest ≤ 30 →
      ∃ t, exec .stuckLine s = .next t ∧
        UnchangedBut [.access, .station, .peers, .outbound, .engine, .outcomes] s t ∧ faulted t ∧
        t.owedOutcomes = s.owedOutcomes ++
          s.outcomeOf .noAck i m :: s.bulkOutcomes .peerSilent m.dest ∧
        t.queue m.dest = [] ∧ (∀ d, d ≠ m.dest → t.queue d = s.queue d) ∧
        (∀ j, j ∉ s.queue m.dest → t.slot j = s.slot j) ∧
        t.peer m.dest = { s.peer m.dest with presence := .silent, presenceTimer := .stopped } ∧
        (∀ a, a ≠ m.dest → t.peer a = s.peer a))) ∧
  (∀ (s : State) (i : Nat) (m : Message) (mark : Option Mark), AwaitsReply s i m mark →
    s.access.stuck = true → s.station.state = .leaving → StoreConsistent s →
    ∃ t, exec .stuckLine s = .next t ∧
      UnchangedBut [.access, .station, .peers, .outbound, .engine, .outcomes] s t ∧
      t.station.state = .unjoined ∧ t.station.faultReason = .lineStuck ∧ t.station.stateChange = true ∧
      t.station.notices = NoticeSet.empty ∧ t.station.leaveMode = none ∧ t.engine.inFlight = .none ∧
      t.access = ⟨.off, 0, none, none, none, false, false, false⟩ ∧
      (∀ a, t.peer a =
        { s.peer a with
          presence :=
            if mark = none ∧ m.attempts = s.station.config.attemptLimit ∧ a = m.dest ∧ a ≤ 30 then .silent
            else (s.peer a).presence
          presenceTimer := .stopped
          holdTimer := .stopped }) ∧
      (mark = none → m.attempts ≠ s.station.config.attemptLimit →
        let waiting := s.setSlot i ⟨(s.slot i).tag,
          some { m with state := .retryWait (s.station.config.retryMs m.attempts) }⟩
        t.owedOutcomes = s.owedOutcomes ++ destinations.flatMap (waiting.bulkOutcomes .abandoned)) ∧
      (∀ k, mark = some k →
        t.owedOutcomes = s.owedOutcomes ++ s.outcomeOf k.result i m ::
          destinations.flatMap (s.bulkOutcomes .abandoned)) ∧
      (mark = none → m.attempts = s.station.config.attemptLimit → m.dest ≤ 30 →
        t.owedOutcomes = s.owedOutcomes ++ s.outcomeOf .noAck i m :: (s.bulkOutcomes .peerSilent m.dest ++
          (destinations.filter fun d => d ≠ m.dest).flatMap (s.bulkOutcomes .abandoned))))

/-- R37, R56, R50: 64 ct of quiet in LINE_FAULT place the JOIN notice and return the station to ACTIVE, contending
with n at 0; the epoch stands. That an event which cannot arise here changes nothing is the model's choice
(notes/assumptions 6). -/
def Obligations.QuietLineRecovers : Prop :=
  (∀ s : State, s.station.state ≠ .lineFault ∨ s.access.recovery = false ∨ s.lineIdle = false →
    exec .lineQuiet s = .next s) ∧
  ∀ s : State, s.station.state = .lineFault → s.access.recovery = true → s.lineIdle = true →
    ∃ t, exec .lineQuiet s = .next t ∧ UnchangedBut [.line, .access, .station] s t ∧
      t.station = { s.station with
        state := .active
        stateChange := true
        notices := { s.station.notices with join := true, hold := t.holdCondition } } ∧
      t.access = ⟨.gap, 0, none, none, none, false, s.line.burst.isSome, false⟩ ∧
      t.line.burst = s.line.burst ∧ t.lineIdle = true

/-! ### Timers -/

/-- R44, R49, R50, R22: what the hold condition is; the join listen timer places the JOIN notice in JOINING, the
beacon timer a BEACON notice in ACTIVE and LEAVING only, the renewal timer re-evaluates the hold condition; a timer
that has not run its interval out does nothing. The ms that pass before an expiry are its operand (notes/assumptions
2); that an event which cannot arise here changes nothing is the model's choice (notes/assumptions 6). -/
def Obligations.StationTimersPlaceNotices : Prop :=
  (∀ s : State, s.holdCondition = true ↔
    (s.station.state = .active ∨ s.station.state = .leaving) ∧
      (s.inbound.h ≠ s.station.lastSentH ∨ (s.inbound.h = true ∧ s.station.renewal = .runOut))) ∧
  ∀ (s : State) (elapsed : Nat),
    let u := s.elapse elapsed
    let serves := decide (s.station.state = .active ∨ s.station.state = .leaving)
    (∀ ms, s.station.listen = .running ms → ms ≤ elapsed → s.station.state = .joining →
      ∃ t, exec (.joinListenExpiry elapsed) s = .next t ∧ UnchangedBut [.access, .station] u t ∧
        t.station = { u.station with
          listen := .stopped, notices := { s.station.notices with join := true } } ∧
        (s.access.state = .idle → t.access.state = if s.lineIdle then .gap else .defer) ∧
        (s.access.state ≠ .idle → t.access = s.access)) ∧
    (∀ ms, s.station.beacon = .running ms → ms ≤ elapsed →
      ∃ t, exec (.beaconTimerExpiry elapsed) s = .next t ∧ UnchangedBut [.access, .station] u t ∧
        t.station = { u.station with
          beacon := .runOut
          notices := { s.station.notices with beacon := s.station.notices.beacon || serves } } ∧
        (s.access.state ≠ .idle → t.access = s.access) ∧
        (s.access.state = .idle → serves = true →
          t.access.state = if s.lineIdle then .gap else .defer)) ∧
    (∀ ms, s.station.renewal = .running ms → ms ≤ elapsed →
      ∃ t, exec (.holdRenewalExpiry elapsed) s = .next t ∧ UnchangedBut [.access, .station] u t ∧
        t.station = { u.station with
          renewal := .runOut
          notices := { s.station.notices with
            hold := serves && (s.inbound.h || s.station.lastSentH) } } ∧
        (s.access.state ≠ .idle → t.access = s.access) ∧ IdleWantsNothing t) ∧
    ((∀ ms, s.station.listen = .running ms → elapsed < ms) →
      exec (.joinListenExpiry elapsed) s = .next u) ∧
    ((∀ ms, s.station.beacon = .running ms → elapsed < ms) →
      exec (.beaconTimerExpiry elapsed) s = .next u) ∧
    ((∀ ms, s.station.renewal = .running ms → elapsed < ms) →
      exec (.holdRenewalExpiry elapsed) s = .next u)

/-- R66, R68, R71, R93: the presence timer of a PRESENT peer that has run its interval out makes it SILENT: its
waiting messages are resolved PEER_SILENT, head first, and one in flight stays with the mark PEER_SILENT or with the
one it had (R90); no other peer and no other queue is touched. A frame of the peer taken first at that instant
restarts the timer, and nothing has run out. The ms that pass before an expiry are its operand (notes/assumptions 2);
that an event which cannot arise here changes nothing is the model's choice (notes/assumptions 6). -/
def Obligations.PresenceTimeoutSilences : Prop :=
  (∀ (s : State) (a elapsed : Nat),
    (s.peer a).presence ≠ .present ∨ (∀ ms, (s.peer a).presenceTimer = .running ms → elapsed < ms) →
    exec (.presenceTimeout a elapsed) s = .next (s.elapse elapsed)) ∧
  (∀ (s : State) (a ms elapsed : Nat), 1 ≤ a → a ≤ 30 → (s.peer a).presence = .present →
    (s.peer a).presenceTimer = .running ms → ms ≤ elapsed → StoreConsistent s →
    let u := s.elapse elapsed
    ∃ t, exec (.presenceTimeout a elapsed) s = .next t ∧
      UnchangedBut [.access, .station, .peers, .outbound, .outcomes] u t ∧
      t.peer a = { u.peer a with presence := .silent, presenceTimer := .stopped } ∧
      (∀ b, b ≠ a → t.peer b = u.peer b) ∧
      t.owedOutcomes = s.owedOutcomes ++ s.bulkOutcomes .peerSilent a ∧
      LeavesMarked s t .peerSilent a ∧
      (∀ d, d ≠ a → t.queue d = s.queue d) ∧
      t.station = { u.station with notices := { s.station.notices with leave := t.station.notices.leave } }) ∧
  (∀ (s : State) (rxd : Levels) (f : Frame), HearsFrame s rxd f → f.source ≠ s.station.address →
    f.kind ≠ .notice .leave → 1 ≤ s.station.config.beacon →
    ∃ t, exec (.endOfFrame rxd) s = .next t ∧ exec (.presenceTimeout f.source 0) t = .next t)

/-- R72, R74, R113, R22: a hold that lapses opens the peer, a retry wait that ends returns the message to QUEUED where
it stands, with its attempts and sequence; an IDLE station contends for what has become eligible. A frame with H = 1
leaves the peer HELD, whether it is taken before or after the lapse of its hold at the same instant. The ms that pass
before an expiry are its operand (notes/assumptions 2); that an event which cannot arise here changes nothing is the
model's choice (notes/assumptions 6). -/
def Obligations.HoldAndRetryLapse : Prop :=
  (∀ (s : State) (a ms elapsed : Nat), 1 ≤ a → a ≤ 30 → (s.peer a).held = true →
    (s.peer a).holdTimer = .running ms → ms ≤ elapsed →
    let u := s.elapse elapsed
    ∃ t, exec (.holdTimerExpiry a elapsed) s = .next t ∧ UnchangedBut [.access, .peers] u t ∧
      t.peer a = { u.peer a with held := false, holdTimer := .stopped } ∧
      (∀ b, b ≠ a → t.peer b = u.peer b) ∧ t.access = { s.access with state := t.access.state } ∧
      t.access.state =
        (if s.access.state = .idle ∧ t.wantsLine = true then (if s.lineIdle then .gap else .defer)
        else s.access.state)) ∧
  (∀ (s : State) (i ms elapsed : Nat) (m : Message), (s.slot i).msg = some m → m.state = .retryWait ms →
    let u := s.elapse elapsed
    (ms ≤ elapsed →
      ∃ t, exec (.retryTimerExpiry i elapsed) s = .next t ∧ UnchangedBut [.access, .outbound] u t ∧
        t.slot i = ⟨(s.slot i).tag, some { m with state := .queued }⟩ ∧
        (∀ j, j ≠ i → t.slot j = u.slot j) ∧ (∀ d, t.queue d = s.queue d) ∧
        t.access = { s.access with state := t.access.state } ∧
        t.access.state =
          (if s.access.state = .idle ∧ t.wantsLine = true then (if s.lineIdle then .gap else .defer)
          else s.access.state)) ∧
    (elapsed < ms → exec (.retryTimerExpiry i elapsed) s = .next u)) ∧
  (∀ (s : State) (a elapsed : Nat),
    (s.peer a).held = false ∨ (∀ ms, (s.peer a).holdTimer = .running ms → elapsed < ms) →
    exec (.holdTimerExpiry a elapsed) s = .next (s.elapse elapsed)) ∧
  (∀ (s : State) (rxd : Levels) (f : Frame), HearsFrame s rxd f → f.source ≠ s.station.address →
    f.kind ≠ .notice .leave → f.h = true → 1 ≤ s.station.config.holdTime →
    (∃ t, exec (.endOfFrame rxd) s = .next t ∧ exec (.holdTimerExpiry f.source 0) t = .next t ∧
      (t.peer f.source).held = true) ∧
    (∃ u t, exec (.holdTimerExpiry f.source 0) s = .next u ∧ exec (.endOfFrame rxd) u = .next t ∧
      (t.peer f.source).held = true))

/-! ### Heard frames -/

/-- Table 10-1, R1, R3, R4, R5, R11, R12, R13, R38: a frame has the layout of Table 10-1 with the CRC of R11 over all
before it, and a burst is judged by the first check of R12 that fails. TXD carries the driven frame, ten bit times to
a character and back to back, and is at mark otherwise. A receiver that waits takes a well-formed frame sent so as
that frame, and a burst found to be a valid frame has exactly that frame's characters. A start bit back at mark in its
middle forms no character; a character is what is sampled in the middle of its bits; after a missing stop bit RXD must
be at mark first. The line is idle while RXD is at mark and no character is being received. Levels are given by half
bit times (notes/assumptions 8). -/
def Obligations.FramesSurviveTheLine : Prop :=
  let remainder := fun bytes : List Byte =>
    (bytes.flatMap fun b => (List.range 8).map b.getMsbD).foldl
      (fun (r : BitVec 16) bit => if r.getMsbD 0 ≠ bit then (r <<< 1) ^^^ 0x1021#16 else r <<< 1) 0xFFFF#16
  let check := fun bytes : List Byte =>
    [byte ((remainder bytes).toNat / 256), byte ((remainder bytes).toNat % 256)]
  (∀ f : Frame, f.wellFormed = true →
    let kind := match f.kind with
      | .data => 0
      | .datagram => 1
      | .ack => 2
      | .refuse => 3
      | .notice _ => 4
    let reason := match f.kind with
      | .notice .beacon => 1
      | .notice .hold => 2
      | .notice .leave => 3
      | _ => 0
    let body := [byte (32 * kind + f.dest), byte ((if f.h then 128 else 0) + f.source),
      byte (16 * f.epoch + reason), byte f.seq, byte f.payload.length] ++ f.payload
    f.bytes = body ++ check body) ∧
  (∀ b : Burst, b.bytes.length = min b.count 71 →
    let body := b.bytes.take (b.count - 2)
    (b.count = 0 → b.found = .noFrame) ∧
    (b.count ≠ 0 → b.faulted = true → b.found = .discarded .framingErrors) ∧
    (b.count ≠ 0 → b.faulted = false → b.count < 7 ∨ 71 < b.count → b.found = .discarded .malformed) ∧
    (7 ≤ b.count → b.count ≤ 71 → b.faulted = false →
      (b.bytes ≠ body ++ check body → b.found = .discarded .crcErrors) ∧
      (b.bytes = body ++ check body →
        (∀ f : Frame, f.wellFormed = true → b.bytes = f.bytes → b.found = .valid f) ∧
        ((∀ f : Frame, f.wellFormed = true → b.bytes ≠ f.bytes) → b.found = .discarded .malformed)))) ∧
  (∀ s : State, s.de = true ↔ s.access.state = .sending ∨ s.access.state = .replying) ∧
  (∀ s : State, s.de = false → s.txd = []) ∧
  (∀ (s : State) (st : AccessState) (f : Frame), Drives s st f → st = .sending ∨ st = .replying →
    s.de = true ∧ s.txd.length = 20 * f.bytes.length ∧
      ∀ k < f.bytes.length, ∀ j < 20, s.txd[20 * k + j]? =
        some (if j < 2 then false else if j < 18 then (f.bytes.getD k 0).getLsbD (j / 2 - 1) else true)) ∧
  (∀ (l : Line) (own ignored : Bool) (f : Frame), f.wellFormed = true → l.rxd = true →
    l.receiver = .waiting →
    (Line.hearAll { l with quiet := 0, burst := some ⟨own, ignored, [], 0, false⟩ }
      (f.levels ++ closingIdle)).burst.map Burst.found = some (.valid f)) ∧
  (∀ (b : Burst) (f : Frame), b.found = .valid f → b.bytes.length = min b.count 71 →
    f.wellFormed = true ∧ b.bytes = f.bytes ∧ b.count = f.bytes.length ∧ b.faulted = false) ∧
  (∀ l : Line, l.idle = true ↔ l.rxd = true ∧ ∀ cells byte, l.receiver ≠ .receiving cells byte) ∧
  (∀ l : Line, l.rxd = true → l.receiver = .waiting → l.over = false →
    ((l.hearAll [false, true]).receiver = .waiting ∧ (l.hearAll [false, true]).rxd = true ∧
      (l.hearAll [false, true]).burst = l.burst) ∧
    (∀ (cells : Levels) (c : RxChar), cells.length = 20 → cells[0]? = some false → cells[1]? = some false →
      (∀ j < 8, cells[2 * j + 3]? = some (c.byte.getLsbD j)) → cells[19]? = some c.stop →
      (l.hearAll cells).burst = l.burst.map (fun b => b.add c) ∧
      (l.hearAll cells).receiver = (if c.stop then .waiting else .broken) ∧
      (l.hearAll cells).idle = c.stop)) ∧
  (∀ (l : Line) (n : Nat), l.receiver = .broken → l.over = false →
    (l.hearAll (List.replicate n false)).receiver = .broken ∧
      (l.hearAll (List.replicate n false)).burst = l.burst ∧
      (l.hearAll (List.replicate n false ++ [true])).receiver = .waiting ∧
      (l.hearAll (List.replicate n false ++ [true])).burst = l.burst)

/-- R64, R15, R47, R112, R123: a valid frame of another station that is a JOIN, BEACON or HOLD notice, is not for
this station, is a DATA or DATAGRAM heard in JOINING or LINE_FAULT, or is a reply outside a reply window, updates
its sender's record (presence, epoch, hold) and nothing else outside the line and its access; such a reply
addressed here is counted stray. -/
def Obligations.HeardFrameUpdatesPeer : Prop :=
  ∀ (s : State) (rxd : Levels) (f : Frame), HearsFrame s rxd f →
    f.source ≠ s.station.address → s.access.state ≠ .awaitReply →
    (f.kind ∈ [.notice .join, .notice .beacon, .notice .hold, .ack, .refuse] ∨
      (f.dest ≠ s.station.address ∧ f.kind = .data) ∨
      (f.dest ≠ s.station.address ∧ f.dest ≠ 31 ∧ f.kind = .datagram) ∨
      (f.kind ∈ [.data, .datagram] ∧ s.station.state ∈ [.joining, .lineFault])) →
    ∃ t, exec (.endOfFrame rxd) s = .next t ∧ UnchangedBut [.line, .access, .peers, .counters] s t ∧
      t.counters =
        (if f.kind ∈ [.ack, .refuse] ∧ f.dest = s.station.address then
          (s.counters.bump .framesHeard).bump .strayReplies
        else s.counters.bump .framesHeard) ∧
      t.peer f.source =
        { s.peer f.source with
          presence := .present
          presenceTimer := .running (3 * (s.station.config.beacon * 100))
          epoch := some f.epoch
          lastAccepted :=
            if (s.peer f.source).epoch = some f.epoch then (s.peer f.source).lastAccepted else none
          held := f.h
          holdTimer := if f.h then .running (s.station.config.holdTime * 10) else .stopped } ∧
      (∀ a, a ≠ f.source → t.peer a = s.peer a) ∧ t.line = ⟨true, .waiting, 21, none⟩ ∧
      t.access = { s.access with
        state := afterBurst s.access.state t.wantsLine
        stuck := false }

/-- R67, R68, R90, R47: a LEAVE notice makes its sender SILENT and OPEN, forgets its epoch and last accepted
sequence, keeps its next tx sequence, and resolves what waits for it PEER_SILENT; what stays carries that mark, or the
one it had. -/
def Obligations.LeaveNoticeDeparts : Prop :=
  ∀ (s : State) (rxd : Levels) (f : Frame), HearsFrame s rxd f →
    f.source ≠ s.station.address → s.access.state ≠ .awaitReply → f.kind = .notice .leave →
    StoreConsistent s →
    ∃ t, exec (.endOfFrame rxd) s = .next t ∧
      UnchangedBut [.line, .access, .station, .peers, .outbound, .outcomes, .counters] s t ∧
      t.counters = s.counters.bump .framesHeard ∧
      t.peer f.source = ⟨.silent, .stopped, false, .stopped, none, none, (s.peer f.source).nextTx⟩ ∧
      (∀ a, a ≠ f.source → t.peer a = s.peer a) ∧
      t.owedOutcomes = s.owedOutcomes ++ s.bulkOutcomes .peerSilent f.source ∧
      LeavesMarked s t .peerSilent f.source ∧ (∀ d, d ≠ f.source → t.queue d = s.queue d) ∧
      t.station = { s.station with notices := { s.station.notices with leave := t.station.notices.leave } }

/-- R119, R120, R122: a DATA frame addressed here in ACTIVE or LEAVING is refused when the store holds 32 records,
answered ACK as a duplicate when its sequence is the sender's last accepted one, and otherwise appended, its
sequence recorded and H re-evaluated, and answered ACK; one that ends a reply window too (R32). -/
def Obligations.DataFrameDecision : Prop :=
  ∀ (s : State) (rxd : Levels) (f : Frame), HearsFrame s rxd f →
    f.source ≠ s.station.address → f.kind = .data → f.dest = s.station.address →
    s.station.state = .active ∨ s.station.state = .leaving → s.access.state ≠ .off →
    let last := if (s.peer f.source).epoch = some f.epoch then (s.peer f.source).lastAccepted else none
    let reply := fun kind h => some
      (Frame.mk kind f.source h s.station.address s.station.epoch f.seq [])
    let heard := s.counters.bump .framesHeard
    ∃ t, exec (.endOfFrame rxd) s = .next t ∧
      (32 ≤ s.inbound.records.length →
        t.access.reply = reply .refuse s.inbound.h ∧ t.inbound = s.inbound ∧
        (t.peer f.source).lastAccepted = last ∧ t.counters = heard.bump .refusalsSent) ∧
      (s.inbound.records.length < 32 → last = some f.seq →
        t.access.reply = reply .ack s.inbound.h ∧ t.inbound = s.inbound ∧
        (t.peer f.source).lastAccepted = last ∧ t.counters = heard.bump .duplicates) ∧
      (s.inbound.records.length < 32 → last ≠ some f.seq →
        t.access.reply = reply .ack t.inbound.h ∧
        t.inbound.records = s.inbound.records ++ [⟨f.source, .acked, false, f.payload⟩] ∧
        t.inbound.h =
          (s.inbound.h || s.station.config.holdLevel ≤ s.inbound.records.length + 1) ∧
        (t.peer f.source).lastAccepted = some f.seq ∧ t.counters = heard) ∧
      UnchangedBut
        [.line, .access, .station, .peers, .outbound, .engine, .inbound, .outcomes, .counters] s t ∧
      (s.access.state ≠ .awaitReply →
        UnchangedBut [.line, .access, .station, .peers, .inbound, .counters] s t ∧
        (∀ a, a ≠ f.source → t.peer a = s.peer a) ∧
        t.station = { s.station with notices := { s.station.notices with hold :=
          if t.inbound.h = s.inbound.h then s.station.notices.hold else t.holdCondition } } ∧
        t.access = { s.access with
          state := afterBurst s.access.state t.wantsLine
          stuck := false
          reply := t.access.reply })

/-- R124, R126: a DATAGRAM addressed here or to all in ACTIVE or LEAVING is appended while there is room and H
re-evaluated, otherwise dropped and counted; it is not answered and its sequence is not recorded. -/
def Obligations.DatagramAcceptance : Prop :=
  ∀ (s : State) (rxd : Levels) (f : Frame), HearsFrame s rxd f →
    f.source ≠ s.station.address → f.kind = .datagram → f.dest = s.station.address ∨ f.dest = 31 →
    s.station.state = .active ∨ s.station.state = .leaving →
    ∃ t, exec (.endOfFrame rxd) s = .next t ∧
      t.access.reply = s.access.reply ∧
      (t.peer f.source).lastAccepted =
        (if (s.peer f.source).epoch = some f.epoch then (s.peer f.source).lastAccepted else none) ∧
      (s.inbound.records.length < 32 →
        t.inbound.records = s.inbound.records ++ [⟨f.source, .datagram, f.dest = 31, f.payload⟩] ∧
        t.inbound.h =
          (s.inbound.h || s.station.config.holdLevel ≤ s.inbound.records.length + 1) ∧
        t.counters = s.counters.bump .framesHeard) ∧
      (32 ≤ s.inbound.records.length →
        t.inbound = s.inbound ∧
        t.counters = (s.counters.bump .framesHeard).bump .droppedDatagrams) ∧
      UnchangedBut
        [.line, .access, .station, .peers, .outbound, .engine, .inbound, .outcomes, .counters] s t ∧
      (s.access.state ≠ .awaitReply →
        UnchangedBut [.line, .access, .station, .peers, .inbound, .counters] s t ∧
        (∀ a, a ≠ f.source → t.peer a = s.peer a) ∧
        t.station = { s.station with notices := { s.station.notices with hold :=
          if t.inbound.h = s.inbound.h then s.station.notices.hold else t.holdCondition } } ∧
        t.access = { s.access with
          state := afterBurst s.access.state t.wantsLine
          stuck := false })

/-- R14, R46, R58, R53: a valid frame with the own address as its source fails a join with ADDRESS_IN_USE; in any
other state that hears frames it sets the conflict flag; it reaches no peer record and no store. -/
def Obligations.AddressConflict : Prop :=
  ∀ (s : State) (rxd : Levels) (f : Frame), HearsFrame s rxd f →
    f.source = s.station.address → s.access.state ≠ .awaitReply →
    (s.station.state = .joining →
      ∃ t, exec (.endOfFrame rxd) s = .next t ∧
        UnchangedBut [.line, .access, .station, .peers, .counters] s t ∧
        t.counters = (s.counters.bump .framesHeard).bump .addressConflicts ∧
        t.station = { s.station with
          state := .unjoined
          faultReason := .addressInUse
          stateChange := true
          notices := NoticeSet.empty
          listen := .stopped
          beacon := .stopped
          leaveMode := none
          leavePending := false } ∧
        PeersKept s t ∧
        t.access = ⟨.off, 0, none, none, none, false, false, false⟩) ∧
    (s.station.state ≠ .joining →
      ∃ t, exec (.endOfFrame rxd) s = .next t ∧ UnchangedBut [.line, .access, .station, .counters] s t ∧
        t.counters = (s.counters.bump .framesHeard).bump .addressConflicts ∧
        t.station = { s.station with conflict := true } ∧ t.access.reply = s.access.reply)

/-- R108, R109, R110, R73: a matching ACK resolves the message DELIVERED, whatever its mark; a matching REFUSE
holds the destination, restores the attempt, and returns the message to QUEUED or resolves it with its mark. The
peer record is updated before the window closes (notes/assumptions 15). -/
def Obligations.MatchingReplySettles : Prop :=
  (Mark.result .cancelled = .cancelled ∧ Mark.result .abandoned = .abandoned ∧
    Mark.result .peerSilent = .peerSilent) ∧
  ∀ (s : State) (rxd : Levels) (f : Frame) (i : Nat) (m : Message) (mark : Option Mark),
    HearsFrame s rxd f → AwaitsReply s i m mark → s.access.occupied = true → StoreConsistent s →
    f.dest = s.station.address → f.source ≠ s.station.address → f.source = m.dest → m.seq = some f.seq →
    let heard := (s.peer f.source).heard s.station.config f
    (f.kind = .ack →
      ∃ t, exec (.endOfFrame rxd) s = .next t ∧
        UnchangedBut [.line, .access, .station, .peers, .outbound, .engine, .outcomes, .counters] s t ∧
        t.owedOutcomes = s.owedOutcomes ++ [s.outcomeOf .delivered i m] ∧
        t.engine = { s.engine with inFlight := .none } ∧ t.peer f.source = heard ∧
        (∀ a, a ≠ f.source → t.peer a = s.peer a) ∧ t.counters = s.counters.bump .framesHeard ∧
        (∀ d, t.queue d = (s.queue d).filter fun j => j ≠ i) ∧ (∀ j, j ≠ i → t.slot j = s.slot j) ∧
        t.access = { s.access with
          state := if t.wantsLine then .gap else .idle
          occupied := false
          stuck := false }) ∧
    (f.kind = .refuse →
      ∃ t, exec (.endOfFrame rxd) s = .next t ∧
        UnchangedBut [.line, .access, .station, .peers, .outbound, .engine, .outcomes, .counters] s t ∧
        t.engine = { s.engine with inFlight := .none } ∧
        t.peer f.source =
          { heard with held := true, holdTimer := .running (s.station.config.holdTime * 10) } ∧
        (∀ a, a ≠ f.source → t.peer a = s.peer a) ∧ t.counters = s.counters.bump .framesHeard ∧
        (∀ j, j ≠ i → t.slot j = s.slot j) ∧
        (mark = none →
          t.slot i = ⟨(s.slot i).tag, some { m with attempts := m.attempts - 1, state := .queued }⟩ ∧
          (∀ d, t.queue d = s.queue d) ∧ t.owedOutcomes = s.owedOutcomes) ∧
        (∀ k, mark = some k →
          t.owedOutcomes = s.owedOutcomes ++
            [⟨i, (s.slot i).tag, m.dest, k.result, m.attempts - 1⟩]))

/-- R6, R12, R18, R5, R23, R32, R108, R111, R112: a burst discarded by validation adds one to its counter; the own
activity, a burst of UNJOINED and a burst without a character count nowhere; each ends a DEFER. Any of them that
occupied a reply window, a burst that joined the own DATA frame's among them, closes it with no reply, which settles
the message in flight; so does a valid frame that is not the reply, which is routed first (notes/assumptions 15), an
ACK or REFUSE addressed here being counted stray. The end of the own DATA burst alone has no effect (R31). -/
def Obligations.DiscardedBurstsCountOnce : Prop :=
  (∀ (s : State) (b : Burst), s.hears b = true ↔
    b.own = false ∧ b.ignored = false ∧ s.station.state ≠ .unjoined) ∧
  ∀ (s : State) (rxd : Levels) (b : Burst), s.de = false → s.line.burst = some b →
    (s.access.state ≠ .awaitReply → ∀ k, s.hears b = true → s.found rxd = .discarded k →
      ∃ t, exec (.endOfFrame rxd) s = .next t ∧ UnchangedBut [.line, .access, .counters] s t ∧
        t.counters = s.counters.bump k ∧ t.line = ⟨true, .waiting, 21, none⟩ ∧
        t.access = { s.access with state := afterBurst s.access.state s.wantsLine, stuck := false }) ∧
    (s.access.state ≠ .awaitReply → s.hears b = false ∨ s.found rxd = .noFrame →
      ∃ t, exec (.endOfFrame rxd) s = .next t ∧ UnchangedBut [.line, .access] s t ∧
        t.line = ⟨true, .waiting, 21, none⟩ ∧
        t.access = { s.access with state := afterBurst s.access.state s.wantsLine, stuck := false }) ∧
    (s.access.state = .awaitReply → s.hears b = false → ¬ WindowOccupied s rxd →
      ∃ t, exec (.endOfFrame rxd) s = .next t ∧ UnchangedBut [.line, .access] s t ∧
        t.line = ⟨true, .waiting, 21, none⟩ ∧ t.access = { s.access with stuck := false }) ∧
    (∀ i m mark, AwaitsReply s i m mark → WindowOccupied s rxd →
      s.hears b = false ∨ s.found rxd = .noFrame ∨ (∃ k, s.found rxd = .discarded k) →
      let counted := if s.hears b = true then
          match s.found rxd with
          | .discarded k => s.counters.bump k
          | _ => s.counters
        else s.counters
      (mark = none → m.attempts ≠ s.station.config.attemptLimit →
        ∃ t, exec (.endOfFrame rxd) s = .next t ∧
          UnchangedBut [.line, .access, .outbound, .engine, .counters] s t ∧
          t.counters = counted ∧ t.engine = { s.engine with inFlight := .none } ∧
          t.slot i = ⟨(s.slot i).tag,
            some { m with state := .retryWait (s.station.config.retryMs m.attempts) }⟩ ∧
          (∀ j, j ≠ i → t.slot j = s.slot j) ∧ (∀ d, t.queue d = s.queue d) ∧
          t.line = ⟨true, .waiting, 21, none⟩ ∧ t.access.state = (if t.wantsLine then .gap else .idle)) ∧
      (∀ k, mark = some k → StoreConsistent s →
        ∃ t, exec (.endOfFrame rxd) s = .next t ∧
          UnchangedBut [.line, .access, .station, .outbound, .engine, .outcomes, .counters] s t ∧
          t.counters = counted ∧ t.engine = { s.engine with inFlight := .none } ∧
          t.owedOutcomes = s.owedOutcomes ++ [s.outcomeOf k.result i m] ∧
          (∀ d, t.queue d = (s.queue d).filter fun j => j ≠ i) ∧ (∀ j, j ≠ i → t.slot j = s.slot j) ∧
          t.line = ⟨true, .waiting, 21, none⟩ ∧ t.access.state = (if t.wantsLine then .gap else .idle)) ∧
      (mark = none → m.attempts = s.station.config.attemptLimit → StoreConsistent s → m.dest ≤ 30 →
        ∃ t, exec (.endOfFrame rxd) s = .next t ∧
          UnchangedBut [.line, .access, .station, .peers, .outbound, .engine, .outcomes, .counters] s t ∧
          t.counters = counted ∧ t.engine = { s.engine with inFlight := .none } ∧
          t.owedOutcomes = s.owedOutcomes ++
            s.outcomeOf .noAck i m :: s.bulkOutcomes .peerSilent m.dest ∧
          t.queue m.dest = [] ∧ (∀ d, d ≠ m.dest → t.queue d = s.queue d) ∧
          t.peer m.dest = { s.peer m.dest with presence := .silent, presenceTimer := .stopped } ∧
          (∀ a, a ≠ m.dest → t.peer a = s.peer a) ∧
          t.line = ⟨true, .waiting, 21, none⟩ ∧ t.access.state = (if t.wantsLine then .gap else .idle))) ∧
    (∀ i m mark f, AwaitsReply s i m mark → WindowOccupied s rxd → HearsFrame s rxd f →
      s.station.state ≠ .joining → StoreConsistent s →
      ¬ (f.kind ∈ [.ack, .refuse] ∧ f.dest = s.station.address ∧ f.source ≠ s.station.address ∧
        f.source = m.dest ∧ m.seq = some f.seq) →
      let departs := f.kind = .notice .leave ∧ f.source ≠ s.station.address
      let gone := if departs then s.bulkOutcomes .peerSilent f.source else []
      let markNow := if departs ∧ f.source = m.dest then some (mark.getD .peerSilent) else mark
      ∃ t, exec (.endOfFrame rxd) s = .next t ∧
        UnchangedBut
          [.line, .access, .station, .peers, .outbound, .engine, .inbound, .outcomes, .counters] s t ∧
        t.engine = { s.engine with inFlight := .none } ∧ t.line = ⟨true, .waiting, 21, none⟩ ∧
        t.access.state = (if t.wantsLine then .gap else .idle) ∧ t.access.occupied = false ∧
        t.station.conflict = (s.station.conflict || f.source = s.station.address) ∧
        (f.kind ∈ [.ack, .refuse] →
          t.counters =
            (if f.source = s.station.address then (s.counters.bump .framesHeard).bump .addressConflicts
            else if f.dest = s.station.address then (s.counters.bump .framesHeard).bump .strayReplies
            else s.counters.bump .framesHeard)) ∧
        (f.source ≠ s.station.address → f.source ≠ m.dest → departs ∨
          t.peer f.source =
            { (s.peer f.source).heard s.station.config f with
              lastAccepted := (t.peer f.source).lastAccepted }) ∧
        (markNow = none → m.attempts ≠ s.station.config.attemptLimit →
          t.owedOutcomes = s.owedOutcomes ++ gone ∧
          t.slot i = ⟨(s.slot i).tag,
            some { m with state := .retryWait (s.station.config.retryMs m.attempts) }⟩) ∧
        (∀ k, markNow = some k →
          t.owedOutcomes = s.owedOutcomes ++ gone ++ [s.outcomeOf k.result i m]) ∧
        (markNow = none → m.attempts = s.station.config.attemptLimit → m.dest ≤ 30 →
          t.owedOutcomes = s.owedOutcomes ++ gone ++
            s.outcomeOf .noAck i m :: s.bulkOutcomes .peerSilent m.dest))

/-! ### Resolution and the pool -/

/-- R92, R137: a resolution takes the slot out of its queue and hands its record to the host's owed outcomes, in
order: into the outcome queue with the slot FREE, or, with 16 records there, onto the waiting list. -/
def Obligations.ResolutionHandsOutcome : Prop :=
  ∀ (s : State) (i : Nat) (r : MsgResult) (m : Message), StoreConsistent s → (s.slot i).msg = some m →
    (∀ r', m.state ≠ .done r') →
    let t := s.resolve i r
    t.owedOutcomes = s.owedOutcomes ++ [s.outcomeOf r i m] ∧
      (∀ d, t.queue d = (s.queue d).filter fun j => j ≠ i) ∧ (∀ j, j ≠ i → t.slot j = s.slot j) ∧
      (s.outcomes.queue.length < 16 →
        t.slot i = ⟨(s.slot i).tag, none⟩ ∧ t.outcomes.waiting = s.outcomes.waiting) ∧
      (s.outcomes.queue.length = 16 →
        t.slot i = ⟨(s.slot i).tag, some { m with state := .done r }⟩ ∧
        t.outcomes.waiting = s.outcomes.waiting ++ [i] ∧ t.outcomes.queue = s.outcomes.queue) ∧
      StoreConsistent t

/-- R96: the FREE slots, the slots in the 31 queues and the waiting slots add up to 48. -/
def Obligations.PoolAddsUp : Prop :=
  ∀ s : State, StoreConsistent s →
    s.freeSlots + (destinations.map fun d => (s.queue d).length).sum + s.outcomes.waiting.length = 48

/-! ### Invariants -/

/-- The state after reset meets every invariant below. -/
def Obligations.ResetMeetsInvariants : Prop :=
  HoldNoticeExact State.reset ∧ IdleWantsNothing State.reset ∧ LeaveNoticePlaced State.reset ∧
    AccessFollowsStation State.reset ∧ HoldFollowsFill State.reset ∧ CountsBounded State.reset ∧
    StoreConsistent State.reset ∧ InFlightConsistent State.reset ∧ TimersGoverned State.reset ∧
    OwnRecordInitial State.reset ∧ SilentQueueMarked State.reset ∧ BurstCounted State.reset

/-- R50: every step keeps the HOLD notice in the set exactly while the hold condition holds. -/
def Obligations.StepKeepsHoldNoticeExact : Prop :=
  ∀ s t : State, HoldNoticeExact s → step s = .next t → HoldNoticeExact t

/-- R22: after every step an IDLE access controller wants nothing. -/
def Obligations.StepKeepsIdleWantsNothing : Prop :=
  ∀ s t : State, IdleWantsNothing s → step s = .next t → IdleWantsNothing t

/-- R52, R117: in LEAVING with every queue empty the LEAVE notice stays placed until the station is UNJOINED. That
it is placed within the command that empties the last queue is read from R117 (notes/assumptions 16). -/
def Obligations.StepKeepsLeaveNoticePlaced : Prop :=
  ∀ s t : State, LeaveNoticePlaced s → step s = .next t → LeaveNoticePlaced t

/-- R21, R38: the access controller is OFF exactly in UNJOINED and LINE_FAULT. -/
def Obligations.StepKeepsAccessFollowsStation : Prop :=
  ∀ s t : State, AccessFollowsStation s → step s = .next t → AccessFollowsStation t

/-- R126, R118, R40, R29, R143: H follows the fill of a store of at most 32 records, with a configuration record in
its ranges; the collision count stays at most 15 and every counter at most 65535; a burst counts every character and
keeps the bytes of its first 71 (R5). -/
def Obligations.StepKeepsLevelsAndBounds : Prop :=
  (∀ s t : State, HoldFollowsFill s → step s = .next t → HoldFollowsFill t) ∧
  (∀ s t : State, CountsBounded s → step s = .next t → CountsBounded t) ∧
  (∀ s t : State, BurstCounted s → step s = .next t → BurstCounted t)

/-- R83, R84, R136, R137: every slot stays in its one place, every slot behind a head QUEUED, and slots wait only
behind a full outcome queue. -/
def Obligations.StepKeepsStoreConsistent : Prop :=
  ∀ s t : State, StoreConsistent s → step s = .next t → StoreConsistent t

/-- R82, R97: what is in flight, the slots and the access controller agree; at most one slot is ON_LINE or
AWAIT_REPLY. -/
def Obligations.StepKeepsInFlightConsistent : Prop :=
  ∀ s t : State, InFlightConsistent s → step s = .next t → InFlightConsistent t

/-- R62, R66, R72, R53: peer timers run only with the field they time, and none runs in UNJOINED. -/
def Obligations.StepKeepsTimersGoverned : Prop :=
  ∀ s t : State, TimersGoverned s → step s = .next t → TimersGoverned t

/-- R61, R86: the record of the own address stays initial and no message is for the own address. -/
def Obligations.StepKeepsOwnRecordInitial : Prop :=
  ∀ s t : State, OwnRecordInitial s → step s = .next t → OwnRecordInitial t

/-- R68: a SILENT peer's queue holds no message without a withdraw mark. -/
def Obligations.StepKeepsSilentQueueMarked : Prop :=
  ∀ s t : State, StoreConsistent s → SilentQueueMarked s → step s = .next t → SilentQueueMarked t
end

