-- ==== Sys2Proof/Laws/State.lean ====
section
/-! SUPPORT. For each change of one block, what every field reads afterwards: true by unfolding the change. -/

namespace Sys2Proof.Machine

section
variable (s : State) (f : Line → Line)

@[simp] theorem State.modLine_pins : (s.modLine f).pins = s.pins := rfl
@[simp] theorem State.modLine_line : (s.modLine f).line = f s.line := rfl
@[simp] theorem State.modLine_access : (s.modLine f).access = s.access := rfl
@[simp] theorem State.modLine_station : (s.modLine f).station = s.station := rfl
@[simp] theorem State.modLine_peers : (s.modLine f).peers = s.peers := rfl
@[simp] theorem State.modLine_outbound : (s.modLine f).outbound = s.outbound := rfl
@[simp] theorem State.modLine_engine : (s.modLine f).engine = s.engine := rfl
@[simp] theorem State.modLine_inbound : (s.modLine f).inbound = s.inbound := rfl
@[simp] theorem State.modLine_outcomes : (s.modLine f).outcomes = s.outcomes := rfl
@[simp] theorem State.modLine_counters : (s.modLine f).counters = s.counters := rfl
@[simp] theorem State.modLine_link : (s.modLine f).link = s.link := rfl
@[simp] theorem State.modLine_generator : (s.modLine f).generator = s.generator := rfl
@[simp] theorem State.modLine_ticks : (s.modLine f).ticks = s.ticks := rfl
@[simp] theorem State.modLine_pending : (s.modLine f).pending = s.pending := rfl

end

section
variable (s : State) (f : Access → Access)

@[simp] theorem State.modAccess_pins : (s.modAccess f).pins = s.pins := rfl
@[simp] theorem State.modAccess_line : (s.modAccess f).line = s.line := rfl
@[simp] theorem State.modAccess_access : (s.modAccess f).access = f s.access := rfl
@[simp] theorem State.modAccess_station : (s.modAccess f).station = s.station := rfl
@[simp] theorem State.modAccess_peers : (s.modAccess f).peers = s.peers := rfl
@[simp] theorem State.modAccess_outbound : (s.modAccess f).outbound = s.outbound := rfl
@[simp] theorem State.modAccess_engine : (s.modAccess f).engine = s.engine := rfl
@[simp] theorem State.modAccess_inbound : (s.modAccess f).inbound = s.inbound := rfl
@[simp] theorem State.modAccess_outcomes : (s.modAccess f).outcomes = s.outcomes := rfl
@[simp] theorem State.modAccess_counters : (s.modAccess f).counters = s.counters := rfl
@[simp] theorem State.modAccess_link : (s.modAccess f).link = s.link := rfl
@[simp] theorem State.modAccess_generator : (s.modAccess f).generator = s.generator := rfl
@[simp] theorem State.modAccess_ticks : (s.modAccess f).ticks = s.ticks := rfl
@[simp] theorem State.modAccess_pending : (s.modAccess f).pending = s.pending := rfl

end

section
variable (s : State) (f : Station → Station)

@[simp] theorem State.modStation_pins : (s.modStation f).pins = s.pins := rfl
@[simp] theorem State.modStation_line : (s.modStation f).line = s.line := rfl
@[simp] theorem State.modStation_access : (s.modStation f).access = s.access := rfl
@[simp] theorem State.modStation_station : (s.modStation f).station = f s.station := rfl
@[simp] theorem State.modStation_peers : (s.modStation f).peers = s.peers := rfl
@[simp] theorem State.modStation_outbound : (s.modStation f).outbound = s.outbound := rfl
@[simp] theorem State.modStation_engine : (s.modStation f).engine = s.engine := rfl
@[simp] theorem State.modStation_inbound : (s.modStation f).inbound = s.inbound := rfl
@[simp] theorem State.modStation_outcomes : (s.modStation f).outcomes = s.outcomes := rfl
@[simp] theorem State.modStation_counters : (s.modStation f).counters = s.counters := rfl
@[simp] theorem State.modStation_link : (s.modStation f).link = s.link := rfl
@[simp] theorem State.modStation_generator : (s.modStation f).generator = s.generator := rfl
@[simp] theorem State.modStation_ticks : (s.modStation f).ticks = s.ticks := rfl
@[simp] theorem State.modStation_pending : (s.modStation f).pending = s.pending := rfl

end

section
variable (s : State) (f : Vector PeerRecord 30 → Vector PeerRecord 30)

@[simp] theorem State.modPeers_pins : (s.modPeers f).pins = s.pins := rfl
@[simp] theorem State.modPeers_line : (s.modPeers f).line = s.line := rfl
@[simp] theorem State.modPeers_access : (s.modPeers f).access = s.access := rfl
@[simp] theorem State.modPeers_station : (s.modPeers f).station = s.station := rfl
@[simp] theorem State.modPeers_peers : (s.modPeers f).peers = f s.peers := rfl
@[simp] theorem State.modPeers_outbound : (s.modPeers f).outbound = s.outbound := rfl
@[simp] theorem State.modPeers_engine : (s.modPeers f).engine = s.engine := rfl
@[simp] theorem State.modPeers_inbound : (s.modPeers f).inbound = s.inbound := rfl
@[simp] theorem State.modPeers_outcomes : (s.modPeers f).outcomes = s.outcomes := rfl
@[simp] theorem State.modPeers_counters : (s.modPeers f).counters = s.counters := rfl
@[simp] theorem State.modPeers_link : (s.modPeers f).link = s.link := rfl
@[simp] theorem State.modPeers_generator : (s.modPeers f).generator = s.generator := rfl
@[simp] theorem State.modPeers_ticks : (s.modPeers f).ticks = s.ticks := rfl
@[simp] theorem State.modPeers_pending : (s.modPeers f).pending = s.pending := rfl

end

section
variable (s : State) (f : Outbound → Outbound)

@[simp] theorem State.modOutbound_pins : (s.modOutbound f).pins = s.pins := rfl
@[simp] theorem State.modOutbound_line : (s.modOutbound f).line = s.line := rfl
@[simp] theorem State.modOutbound_access : (s.modOutbound f).access = s.access := rfl
@[simp] theorem State.modOutbound_station : (s.modOutbound f).station = s.station := rfl
@[simp] theorem State.modOutbound_peers : (s.modOutbound f).peers = s.peers := rfl
@[simp] theorem State.modOutbound_outbound : (s.modOutbound f).outbound = f s.outbound := rfl
@[simp] theorem State.modOutbound_engine : (s.modOutbound f).engine = s.engine := rfl
@[simp] theorem State.modOutbound_inbound : (s.modOutbound f).inbound = s.inbound := rfl
@[simp] theorem State.modOutbound_outcomes : (s.modOutbound f).outcomes = s.outcomes := rfl
@[simp] theorem State.modOutbound_counters : (s.modOutbound f).counters = s.counters := rfl
@[simp] theorem State.modOutbound_link : (s.modOutbound f).link = s.link := rfl
@[simp] theorem State.modOutbound_generator : (s.modOutbound f).generator = s.generator := rfl
@[simp] theorem State.modOutbound_ticks : (s.modOutbound f).ticks = s.ticks := rfl
@[simp] theorem State.modOutbound_pending : (s.modOutbound f).pending = s.pending := rfl

end

section
variable (s : State) (f : Engine → Engine)

@[simp] theorem State.modEngine_pins : (s.modEngine f).pins = s.pins := rfl
@[simp] theorem State.modEngine_line : (s.modEngine f).line = s.line := rfl
@[simp] theorem State.modEngine_access : (s.modEngine f).access = s.access := rfl
@[simp] theorem State.modEngine_station : (s.modEngine f).station = s.station := rfl
@[simp] theorem State.modEngine_peers : (s.modEngine f).peers = s.peers := rfl
@[simp] theorem State.modEngine_outbound : (s.modEngine f).outbound = s.outbound := rfl
@[simp] theorem State.modEngine_engine : (s.modEngine f).engine = f s.engine := rfl
@[simp] theorem State.modEngine_inbound : (s.modEngine f).inbound = s.inbound := rfl
@[simp] theorem State.modEngine_outcomes : (s.modEngine f).outcomes = s.outcomes := rfl
@[simp] theorem State.modEngine_counters : (s.modEngine f).counters = s.counters := rfl
@[simp] theorem State.modEngine_link : (s.modEngine f).link = s.link := rfl
@[simp] theorem State.modEngine_generator : (s.modEngine f).generator = s.generator := rfl
@[simp] theorem State.modEngine_ticks : (s.modEngine f).ticks = s.ticks := rfl
@[simp] theorem State.modEngine_pending : (s.modEngine f).pending = s.pending := rfl

end

section
variable (s : State) (f : Inbound → Inbound)

@[simp] theorem State.modInbound_pins : (s.modInbound f).pins = s.pins := rfl
@[simp] theorem State.modInbound_line : (s.modInbound f).line = s.line := rfl
@[simp] theorem State.modInbound_access : (s.modInbound f).access = s.access := rfl
@[simp] theorem State.modInbound_station : (s.modInbound f).station = s.station := rfl
@[simp] theorem State.modInbound_peers : (s.modInbound f).peers = s.peers := rfl
@[simp] theorem State.modInbound_outbound : (s.modInbound f).outbound = s.outbound := rfl
@[simp] theorem State.modInbound_engine : (s.modInbound f).engine = s.engine := rfl
@[simp] theorem State.modInbound_inbound : (s.modInbound f).inbound = f s.inbound := rfl
@[simp] theorem State.modInbound_outcomes : (s.modInbound f).outcomes = s.outcomes := rfl
@[simp] theorem State.modInbound_counters : (s.modInbound f).counters = s.counters := rfl
@[simp] theorem State.modInbound_link : (s.modInbound f).link = s.link := rfl
@[simp] theorem State.modInbound_generator : (s.modInbound f).generator = s.generator := rfl
@[simp] theorem State.modInbound_ticks : (s.modInbound f).ticks = s.ticks := rfl
@[simp] theorem State.modInbound_pending : (s.modInbound f).pending = s.pending := rfl

end

section
variable (s : State) (f : Outcomes → Outcomes)

@[simp] theorem State.modOutcomes_pins : (s.modOutcomes f).pins = s.pins := rfl
@[simp] theorem State.modOutcomes_line : (s.modOutcomes f).line = s.line := rfl
@[simp] theorem State.modOutcomes_access : (s.modOutcomes f).access = s.access := rfl
@[simp] theorem State.modOutcomes_station : (s.modOutcomes f).station = s.station := rfl
@[simp] theorem State.modOutcomes_peers : (s.modOutcomes f).peers = s.peers := rfl
@[simp] theorem State.modOutcomes_outbound : (s.modOutcomes f).outbound = s.outbound := rfl
@[simp] theorem State.modOutcomes_engine : (s.modOutcomes f).engine = s.engine := rfl
@[simp] theorem State.modOutcomes_inbound : (s.modOutcomes f).inbound = s.inbound := rfl
@[simp] theorem State.modOutcomes_outcomes : (s.modOutcomes f).outcomes = f s.outcomes := rfl
@[simp] theorem State.modOutcomes_counters : (s.modOutcomes f).counters = s.counters := rfl
@[simp] theorem State.modOutcomes_link : (s.modOutcomes f).link = s.link := rfl
@[simp] theorem State.modOutcomes_generator : (s.modOutcomes f).generator = s.generator := rfl
@[simp] theorem State.modOutcomes_ticks : (s.modOutcomes f).ticks = s.ticks := rfl
@[simp] theorem State.modOutcomes_pending : (s.modOutcomes f).pending = s.pending := rfl

end

section
variable (s : State) (f : Counters → Counters)

@[simp] theorem State.modCounters_pins : (s.modCounters f).pins = s.pins := rfl
@[simp] theorem State.modCounters_line : (s.modCounters f).line = s.line := rfl
@[simp] theorem State.modCounters_access : (s.modCounters f).access = s.access := rfl
@[simp] theorem State.modCounters_station : (s.modCounters f).station = s.station := rfl
@[simp] theorem State.modCounters_peers : (s.modCounters f).peers = s.peers := rfl
@[simp] theorem State.modCounters_outbound : (s.modCounters f).outbound = s.outbound := rfl
@[simp] theorem State.modCounters_engine : (s.modCounters f).engine = s.engine := rfl
@[simp] theorem State.modCounters_inbound : (s.modCounters f).inbound = s.inbound := rfl
@[simp] theorem State.modCounters_outcomes : (s.modCounters f).outcomes = s.outcomes := rfl
@[simp] theorem State.modCounters_counters : (s.modCounters f).counters = f s.counters := rfl
@[simp] theorem State.modCounters_link : (s.modCounters f).link = s.link := rfl
@[simp] theorem State.modCounters_generator : (s.modCounters f).generator = s.generator := rfl
@[simp] theorem State.modCounters_ticks : (s.modCounters f).ticks = s.ticks := rfl
@[simp] theorem State.modCounters_pending : (s.modCounters f).pending = s.pending := rfl

end

section
variable (s : State) (f : Link → Link)

@[simp] theorem State.modLink_pins : (s.modLink f).pins = s.pins := rfl
@[simp] theorem State.modLink_line : (s.modLink f).line = s.line := rfl
@[simp] theorem State.modLink_access : (s.modLink f).access = s.access := rfl
@[simp] theorem State.modLink_station : (s.modLink f).station = s.station := rfl
@[simp] theorem State.modLink_peers : (s.modLink f).peers = s.peers := rfl
@[simp] theorem State.modLink_outbound : (s.modLink f).outbound = s.outbound := rfl
@[simp] theorem State.modLink_engine : (s.modLink f).engine = s.engine := rfl
@[simp] theorem State.modLink_inbound : (s.modLink f).inbound = s.inbound := rfl
@[simp] theorem State.modLink_outcomes : (s.modLink f).outcomes = s.outcomes := rfl
@[simp] theorem State.modLink_counters : (s.modLink f).counters = s.counters := rfl
@[simp] theorem State.modLink_link : (s.modLink f).link = f s.link := rfl
@[simp] theorem State.modLink_generator : (s.modLink f).generator = s.generator := rfl
@[simp] theorem State.modLink_ticks : (s.modLink f).ticks = s.ticks := rfl
@[simp] theorem State.modLink_pending : (s.modLink f).pending = s.pending := rfl

end

@[simp] theorem State.takeRandom_generator (s : State) : s.takeRandom.generator = s.generator + 1 := rfl

@[simp] theorem State.takeRandom_pins (s : State) : s.takeRandom.pins = s.pins := rfl
@[simp] theorem State.takeRandom_line (s : State) : s.takeRandom.line = s.line := rfl
@[simp] theorem State.takeRandom_access (s : State) : s.takeRandom.access = s.access := rfl
@[simp] theorem State.takeRandom_station (s : State) : s.takeRandom.station = s.station := rfl
@[simp] theorem State.takeRandom_peers (s : State) : s.takeRandom.peers = s.peers := rfl
@[simp] theorem State.takeRandom_outbound (s : State) : s.takeRandom.outbound = s.outbound := rfl
@[simp] theorem State.takeRandom_engine (s : State) : s.takeRandom.engine = s.engine := rfl
@[simp] theorem State.takeRandom_inbound (s : State) : s.takeRandom.inbound = s.inbound := rfl
@[simp] theorem State.takeRandom_outcomes (s : State) : s.takeRandom.outcomes = s.outcomes := rfl
@[simp] theorem State.takeRandom_counters (s : State) : s.takeRandom.counters = s.counters := rfl
@[simp] theorem State.takeRandom_link (s : State) : s.takeRandom.link = s.link := rfl
@[simp] theorem State.takeRandom_ticks (s : State) : s.takeRandom.ticks = s.ticks := rfl
@[simp] theorem State.takeRandom_pending (s : State) : s.takeRandom.pending = s.pending := rfl

end Sys2Proof.Machine
end

