-- ==== Sys2Proof/Laws/Ops.lean ====
section
/-! SUPPORT. The operations on peer records, slots and queues: what each leaves alone, and reading after
writing. -/

namespace Sys2Proof.Machine

section
variable (s : State) (k : CounterName)

@[simp] theorem State.count_pins : (s.count k).pins = s.pins := by
  simp [State.count]
@[simp] theorem State.count_line : (s.count k).line = s.line := by
  simp [State.count]
@[simp] theorem State.count_access : (s.count k).access = s.access := by
  simp [State.count]
@[simp] theorem State.count_station : (s.count k).station = s.station := by
  simp [State.count]
@[simp] theorem State.count_peers : (s.count k).peers = s.peers := by
  simp [State.count]
@[simp] theorem State.count_outbound : (s.count k).outbound = s.outbound := by
  simp [State.count]
@[simp] theorem State.count_engine : (s.count k).engine = s.engine := by
  simp [State.count]
@[simp] theorem State.count_inbound : (s.count k).inbound = s.inbound := by
  simp [State.count]
@[simp] theorem State.count_outcomes : (s.count k).outcomes = s.outcomes := by
  simp [State.count]
@[simp] theorem State.count_link : (s.count k).link = s.link := by
  simp [State.count]
@[simp] theorem State.count_generator : (s.count k).generator = s.generator := by
  simp [State.count]
@[simp] theorem State.count_ticks : (s.count k).ticks = s.ticks := by
  simp [State.count]
@[simp] theorem State.count_pending : (s.count k).pending = s.pending := by
  simp [State.count]

end

@[simp] theorem State.count_counters (s : State) (k : CounterName) :
    (s.count k).counters = s.counters.bump k := rfl

section
variable (s : State) (a : Nat) (f : PeerRecord → PeerRecord)

@[simp] theorem State.modPeer_pins : (s.modPeer a f).pins = s.pins := by
  unfold State.modPeer; split <;> simp
@[simp] theorem State.modPeer_line : (s.modPeer a f).line = s.line := by
  unfold State.modPeer; split <;> simp
@[simp] theorem State.modPeer_access : (s.modPeer a f).access = s.access := by
  unfold State.modPeer; split <;> simp
@[simp] theorem State.modPeer_station : (s.modPeer a f).station = s.station := by
  unfold State.modPeer; split <;> simp
@[simp] theorem State.modPeer_outbound : (s.modPeer a f).outbound = s.outbound := by
  unfold State.modPeer; split <;> simp
@[simp] theorem State.modPeer_engine : (s.modPeer a f).engine = s.engine := by
  unfold State.modPeer; split <;> simp
@[simp] theorem State.modPeer_inbound : (s.modPeer a f).inbound = s.inbound := by
  unfold State.modPeer; split <;> simp
@[simp] theorem State.modPeer_outcomes : (s.modPeer a f).outcomes = s.outcomes := by
  unfold State.modPeer; split <;> simp
@[simp] theorem State.modPeer_counters : (s.modPeer a f).counters = s.counters := by
  unfold State.modPeer; split <;> simp
@[simp] theorem State.modPeer_link : (s.modPeer a f).link = s.link := by
  unfold State.modPeer; split <;> simp
@[simp] theorem State.modPeer_generator : (s.modPeer a f).generator = s.generator := by
  unfold State.modPeer; split <;> simp
@[simp] theorem State.modPeer_ticks : (s.modPeer a f).ticks = s.ticks := by
  unfold State.modPeer; split <;> simp
@[simp] theorem State.modPeer_pending : (s.modPeer a f).pending = s.pending := by
  unfold State.modPeer; split <;> simp

end

section
variable (s : State) (i : Nat) (x : Slot)

@[simp] theorem State.setSlot_pins : (s.setSlot i x).pins = s.pins := by
  simp [State.setSlot]
@[simp] theorem State.setSlot_line : (s.setSlot i x).line = s.line := by
  simp [State.setSlot]
@[simp] theorem State.setSlot_access : (s.setSlot i x).access = s.access := by
  simp [State.setSlot]
@[simp] theorem State.setSlot_station : (s.setSlot i x).station = s.station := by
  simp [State.setSlot]
@[simp] theorem State.setSlot_peers : (s.setSlot i x).peers = s.peers := by
  simp [State.setSlot]
@[simp] theorem State.setSlot_engine : (s.setSlot i x).engine = s.engine := by
  simp [State.setSlot]
@[simp] theorem State.setSlot_inbound : (s.setSlot i x).inbound = s.inbound := by
  simp [State.setSlot]
@[simp] theorem State.setSlot_outcomes : (s.setSlot i x).outcomes = s.outcomes := by
  simp [State.setSlot]
@[simp] theorem State.setSlot_counters : (s.setSlot i x).counters = s.counters := by
  simp [State.setSlot]
@[simp] theorem State.setSlot_link : (s.setSlot i x).link = s.link := by
  simp [State.setSlot]
@[simp] theorem State.setSlot_generator : (s.setSlot i x).generator = s.generator := by
  simp [State.setSlot]
@[simp] theorem State.setSlot_ticks : (s.setSlot i x).ticks = s.ticks := by
  simp [State.setSlot]
@[simp] theorem State.setSlot_pending : (s.setSlot i x).pending = s.pending := by
  simp [State.setSlot]

end

section
variable (s : State) (i : Nat) (f : Message → Message)

@[simp] theorem State.modMessage_pins : (s.modMessage i f).pins = s.pins := by
  unfold State.modMessage; split <;> simp
@[simp] theorem State.modMessage_line : (s.modMessage i f).line = s.line := by
  unfold State.modMessage; split <;> simp
@[simp] theorem State.modMessage_access : (s.modMessage i f).access = s.access := by
  unfold State.modMessage; split <;> simp
@[simp] theorem State.modMessage_station : (s.modMessage i f).station = s.station := by
  unfold State.modMessage; split <;> simp
@[simp] theorem State.modMessage_peers : (s.modMessage i f).peers = s.peers := by
  unfold State.modMessage; split <;> simp
@[simp] theorem State.modMessage_engine : (s.modMessage i f).engine = s.engine := by
  unfold State.modMessage; split <;> simp
@[simp] theorem State.modMessage_inbound : (s.modMessage i f).inbound = s.inbound := by
  unfold State.modMessage; split <;> simp
@[simp] theorem State.modMessage_outcomes : (s.modMessage i f).outcomes = s.outcomes := by
  unfold State.modMessage; split <;> simp
@[simp] theorem State.modMessage_counters : (s.modMessage i f).counters = s.counters := by
  unfold State.modMessage; split <;> simp
@[simp] theorem State.modMessage_link : (s.modMessage i f).link = s.link := by
  unfold State.modMessage; split <;> simp
@[simp] theorem State.modMessage_generator : (s.modMessage i f).generator = s.generator := by
  unfold State.modMessage; split <;> simp
@[simp] theorem State.modMessage_ticks : (s.modMessage i f).ticks = s.ticks := by
  unfold State.modMessage; split <;> simp
@[simp] theorem State.modMessage_pending : (s.modMessage i f).pending = s.pending := by
  unfold State.modMessage; split <;> simp

end

section
variable (s : State) (d : Nat) (f : List Nat → List Nat)

@[simp] theorem State.modQueue_pins : (s.modQueue d f).pins = s.pins := by
  unfold State.modQueue; split <;> simp
@[simp] theorem State.modQueue_line : (s.modQueue d f).line = s.line := by
  unfold State.modQueue; split <;> simp
@[simp] theorem State.modQueue_access : (s.modQueue d f).access = s.access := by
  unfold State.modQueue; split <;> simp
@[simp] theorem State.modQueue_station : (s.modQueue d f).station = s.station := by
  unfold State.modQueue; split <;> simp
@[simp] theorem State.modQueue_peers : (s.modQueue d f).peers = s.peers := by
  unfold State.modQueue; split <;> simp
@[simp] theorem State.modQueue_engine : (s.modQueue d f).engine = s.engine := by
  unfold State.modQueue; split <;> simp
@[simp] theorem State.modQueue_inbound : (s.modQueue d f).inbound = s.inbound := by
  unfold State.modQueue; split <;> simp
@[simp] theorem State.modQueue_outcomes : (s.modQueue d f).outcomes = s.outcomes := by
  unfold State.modQueue; split <;> simp
@[simp] theorem State.modQueue_counters : (s.modQueue d f).counters = s.counters := by
  unfold State.modQueue; split <;> simp
@[simp] theorem State.modQueue_link : (s.modQueue d f).link = s.link := by
  unfold State.modQueue; split <;> simp
@[simp] theorem State.modQueue_generator : (s.modQueue d f).generator = s.generator := by
  unfold State.modQueue; split <;> simp
@[simp] theorem State.modQueue_ticks : (s.modQueue d f).ticks = s.ticks := by
  unfold State.modQueue; split <;> simp
@[simp] theorem State.modQueue_pending : (s.modQueue d f).pending = s.pending := by
  unfold State.modQueue; split <;> simp

end

/-! ### Reading after writing -/

/-- A record of the table reads as it was changed. -/
theorem State.peer_modPeer_self (s : State) (a : Nat) (f : PeerRecord → PeerRecord) (h : a ≠ 0)
    (h30 : a ≤ 30) : (s.modPeer a f).peer a = f (s.peer a) := by
  have hlt : a - 1 < 30 := by omega
  simp [State.modPeer, State.peer, h, hlt]

/-- A change of one record leaves every other (R61). -/
theorem State.peer_modPeer_other (s : State) (a b : Nat) (f : PeerRecord → PeerRecord) (h : b ≠ a) :
    (s.modPeer a f).peer b = s.peer b := by
  unfold State.modPeer
  split
  · rfl
  · by_cases hb : b = 0
    · simp [State.peer, hb]
    · have hne : a - 1 ≠ b - 1 := by omega
      simp [State.peer, hb, hne]

/-- An address without a record reads as an initial record, whatever is changed. -/
theorem State.peer_outside (s : State) (a : Nat) (h : a = 0 ∨ 30 < a) : s.peer a = PeerRecord.initial := by
  rcases h with h | h
  · simp [State.peer, h]
  · have h0 : a ≠ 0 := by omega
    have : ¬ a - 1 < 30 := by omega
    simp [State.peer, h0, Vector.getElem?_eq_none (by omega : 30 ≤ a - 1)]

/-- A slot reads as it was set. -/
theorem State.slot_setSlot_self (s : State) (i : Nat) (x : Slot) (h : i < 48) : (s.setSlot i x).slot i = x := by
  simp [State.setSlot, State.slot, h]

/-- Setting one slot leaves every other. -/
theorem State.slot_setSlot_other (s : State) (i j : Nat) (x : Slot) (h : j ≠ i) :
    (s.setSlot i x).slot j = s.slot j := by
  simp [State.setSlot, State.slot, h.symm]

/-- A number above 47 reads as a FREE slot. -/
theorem State.slot_outside (s : State) (i : Nat) (h : 48 ≤ i) : s.slot i = ⟨0, none⟩ := by
  simp [State.slot, Vector.getElem?_eq_none h]

/-- A slot that holds a message is one of the 48. -/
theorem State.slot_lt (s : State) (i : Nat) (m : Message) (h : (s.slot i).msg = some m) : i < 48 := by
  by_contra hn
  rw [s.slot_outside i (by omega)] at h
  cases h

@[simp] theorem State.queue_setSlot (s : State) (i d : Nat) (x : Slot) : (s.setSlot i x).queue d = s.queue d :=
  rfl

@[simp] theorem State.queue_modMessage (s : State) (i d : Nat) (f : Message → Message) :
    (s.modMessage i f).queue d = s.queue d := by
  unfold State.modMessage; split <;> rfl

/-- Changing the message of a slot leaves every other slot. -/
theorem State.slot_modMessage_other (s : State) (i j : Nat) (f : Message → Message) (h : j ≠ i) :
    (s.modMessage i f).slot j = s.slot j := by
  unfold State.modMessage
  split
  · rfl
  · exact s.slot_setSlot_other i j _ h

/-- The message of a slot reads as it was changed; the tag stays. -/
theorem State.slot_modMessage_self (s : State) (i : Nat) (f : Message → Message) :
    (s.modMessage i f).slot i = ⟨(s.slot i).tag, (s.slot i).msg.map f⟩ := by
  unfold State.modMessage
  split
  · next h => cases hs : s.slot i; simp_all
  · next m h => rw [s.slot_setSlot_self i _ (s.slot_lt i m h), h]; rfl

/-- A destination queue reads as it was changed. -/
theorem State.queue_modQueue_self (s : State) (d : Nat) (f : List Nat → List Nat) (h : d ≠ 0) (h31 : d ≤ 31) :
    (s.modQueue d f).queue d = f (s.queue d) := by
  have hlt : d - 1 < 31 := by omega
  simp [State.modQueue, State.queue, h, hlt]

/-- Changing one queue leaves every other. -/
theorem State.queue_modQueue_other (s : State) (d e : Nat) (f : List Nat → List Nat) (h : e ≠ d) :
    (s.modQueue d f).queue e = s.queue e := by
  unfold State.modQueue
  split
  · rfl
  · by_cases he : e = 0
    · simp [State.queue, he]
    · have hne : d - 1 ≠ e - 1 := by omega
      simp [State.queue, he, hne]

@[simp] theorem State.slot_modQueue (s : State) (d i : Nat) (f : List Nat → List Nat) :
    (s.modQueue d f).slot i = s.slot i := by
  unfold State.modQueue; split <;> rfl

@[simp] theorem State.modPeer_slot (s : State) (a i : Nat) (f : PeerRecord → PeerRecord) :
    (s.modPeer a f).slot i = s.slot i := by
  simp [State.slot]

@[simp] theorem State.modPeer_queue (s : State) (a d : Nat) (f : PeerRecord → PeerRecord) :
    (s.modPeer a f).queue d = s.queue d := by
  simp [State.queue]

/-- The destinations are 1 to 31. -/
theorem mem_destinations (d : Nat) : d ∈ destinations ↔ 1 ≤ d ∧ d ≤ 31 := by
  simp [destinations, Config.queues, List.mem_range'_1]; omega

/-- A fold of an operation that keeps a reading keeps it. -/
theorem foldl_keeps {α β : Type} (op : State → β → State) (read : State → α)
    (h : ∀ s b, read (op s b) = read s) (l : List β) (s : State) : read (l.foldl op s) = read s := by
  induction l generalizing s with
  | nil => rfl
  | cons b l ih => exact (ih (op s b)).trans (h s b)

/-- A fold of an operation that keeps an invariant keeps it. -/
theorem foldl_invariant {β : Type} (op : State → β → State) (inv : State → Prop)
    (h : ∀ s b, inv s → inv (op s b)) (l : List β) (s : State) (hs : inv s) : inv (l.foldl op s) := by
  induction l generalizing s with
  | nil => exact hs
  | cons b l ih => exact ih (op s b) (h s b hs)

end Sys2Proof.Machine
end

