-- ==== Sys2Proof/Laws/Resolution.lean ====
section
/-! SUPPORT. Resolution, marks and the settlement of a window: one relation says all they can change, one lemma
per operation says that it changes no more, and the cases of a resolution are equations. -/

namespace Sys2Proof.Machine

/-- All that an order to resolve, mark or settle messages can change: whether the LEAVE notice is placed, the
peer records, the slots and queues, the outcome lists and the item in flight. -/
def Settles (s t : State) : Prop :=
  ∃ leave peers outbound outcomes engine,
    t = { s with
      station := { s.station with notices := { s.station.notices with leave := leave } }
      peers := peers
      outbound := outbound
      outcomes := outcomes
      engine := engine }

theorem Settles.refl (s : State) : Settles s s := ⟨_, _, _, _, _, rfl⟩

theorem Settles.trans {s t u : State} : Settles s t → Settles t u → Settles s u
  | ⟨_, _, _, _, _, h⟩, ⟨_, _, _, _, _, k⟩ => ⟨_, _, _, _, _, by rw [k, h]⟩

theorem Settles.foldl {β : Type} {op : State → β → State} (h : ∀ s b, Settles s (op s b)) (l : List β)
    (s : State) : Settles s (l.foldl op s) :=
  foldl_invariant op (Settles s) (fun t b ht => ht.trans (h t b)) l s (.refl s)

section
variable {s t : State} (h : Settles s t)
include h

theorem Settles.pins : t.pins = s.pins := by
  obtain ⟨_, _, _, _, _, rfl⟩ := h; rfl
theorem Settles.line : t.line = s.line := by
  obtain ⟨_, _, _, _, _, rfl⟩ := h; rfl
theorem Settles.access : t.access = s.access := by
  obtain ⟨_, _, _, _, _, rfl⟩ := h; rfl
theorem Settles.inbound : t.inbound = s.inbound := by
  obtain ⟨_, _, _, _, _, rfl⟩ := h; rfl
theorem Settles.counters : t.counters = s.counters := by
  obtain ⟨_, _, _, _, _, rfl⟩ := h; rfl
theorem Settles.link : t.link = s.link := by
  obtain ⟨_, _, _, _, _, rfl⟩ := h; rfl
theorem Settles.generator : t.generator = s.generator := by
  obtain ⟨_, _, _, _, _, rfl⟩ := h; rfl
theorem Settles.ticks : t.ticks = s.ticks := by
  obtain ⟨_, _, _, _, _, rfl⟩ := h; rfl
theorem Settles.pending : t.pending = s.pending := by
  obtain ⟨_, _, _, _, _, rfl⟩ := h; rfl

/-- Of the station controller only the LEAVE notice can change. -/
theorem Settles.station : t.station =
    { s.station with notices := { s.station.notices with leave := t.station.notices.leave } } := by
  obtain ⟨_, _, _, _, _, rfl⟩ := h; rfl

theorem Settles.station_state : t.station.state = s.station.state := by rw [h.station]
theorem Settles.station_config : t.station.config = s.station.config := by rw [h.station]
theorem Settles.station_address : t.station.address = s.station.address := by rw [h.station]

end

/-! ### One lemma per operation -/

theorem State.modPeers_settles (s : State) (f : Vector PeerRecord 30 → Vector PeerRecord 30) :
    Settles s (s.modPeers f) := ⟨_, _, _, _, _, rfl⟩

theorem State.modOutbound_settles (s : State) (f : Outbound → Outbound) : Settles s (s.modOutbound f) :=
  ⟨_, _, _, _, _, rfl⟩

theorem State.modOutcomes_settles (s : State) (f : Outcomes → Outcomes) : Settles s (s.modOutcomes f) :=
  ⟨_, _, _, _, _, rfl⟩

theorem State.modEngine_settles (s : State) (f : Engine → Engine) : Settles s (s.modEngine f) :=
  ⟨_, _, _, _, _, rfl⟩

theorem State.modPeer_settles (s : State) (a : Nat) (f : PeerRecord → PeerRecord) : Settles s (s.modPeer a f) := by
  unfold State.modPeer
  split
  exacts [.refl s, s.modPeers_settles _]

theorem State.setSlot_settles (s : State) (i : Nat) (x : Slot) : Settles s (s.setSlot i x) :=
  s.modOutbound_settles _

theorem State.modMessage_settles (s : State) (i : Nat) (f : Message → Message) : Settles s (s.modMessage i f) := by
  unfold State.modMessage
  split
  exacts [.refl s, s.setSlot_settles i _]

theorem State.modQueue_settles (s : State) (d : Nat) (f : List Nat → List Nat) : Settles s (s.modQueue d f) := by
  unfold State.modQueue
  split
  exacts [.refl s, s.modOutbound_settles _]

theorem State.watchQueues_settles (s : State) : Settles s s.watchQueues := by
  unfold State.watchQueues
  split
  exacts [⟨_, _, _, _, _, rfl⟩, .refl s]

theorem State.handOutcome_settles (s : State) (i : Nat) (m : Message) (r : MsgResult) :
    Settles s (s.handOutcome i m r) := by
  unfold State.handOutcome
  dsimp only
  split
  all_goals exact (s.modOutcomes_settles _).trans (State.setSlot_settles _ i _)

theorem State.resolve_settles (s : State) (i : Nat) (r : MsgResult) : Settles s (s.resolve i r) := by
  unfold State.resolve
  split
  · exact .refl s
  · next m _ =>
    split
    · exact .refl s
    · exact ((s.modQueue_settles m.dest _).trans (State.handOutcome_settles _ i m r)).trans
        (State.watchQueues_settles _)

theorem State.resolveWaiting_settles (r : MsgResult) (s : State) (i : Nat) :
    Settles s (State.resolveWaiting r s i) := by
  unfold State.resolveWaiting
  split
  · exact .refl s
  · split
    exacts [s.resolve_settles i r, s.resolve_settles i r, .refl s]

theorem State.setMark_settles (k : Mark) (s : State) (i : Nat) : Settles s (State.setMark k s i) :=
  s.modMessage_settles i _

theorem State.resolveQueue_settles (s : State) (d : Nat) (r : MsgResult) : Settles s (s.resolveQueue d r) :=
  .foldl (State.resolveWaiting_settles r) _ s

theorem State.markQueue_settles (s : State) (d : Nat) (k : Mark) : Settles s (s.markQueue d k) :=
  .foldl (State.setMark_settles k) _ s

theorem State.abandonAll_settles (s : State) : Settles s s.abandonAll :=
  (Settles.foldl (fun s d => s.resolveQueue_settles d .abandoned) destinations s).trans
    (Settles.foldl (fun s d => s.markQueue_settles d .abandoned) destinations _)

theorem State.makeSilent_settles (s : State) (a : Nat) : Settles s (s.makeSilent a) :=
  ((s.modPeer_settles a _).trans (State.resolveQueue_settles _ a _)).trans (State.markQueue_settles _ a _)

theorem State.holdPeer_settles (s : State) (a : Nat) : Settles s (s.holdPeer a) := s.modPeer_settles a _

theorem State.requeueRefused_settles (s : State) (i : Nat) (mark : Option Mark) :
    Settles s (s.requeueRefused i mark) := by
  cases mark
  · exact (s.modMessage_settles i _).trans (State.modMessage_settles _ i _)
  · exact (s.modMessage_settles i _).trans (State.resolve_settles _ i _)

theorem State.settleNoReply_settles (s : State) (i : Nat) (m : Message) (mark : Option Mark) :
    Settles s (s.settleNoReply i m mark) := by
  unfold State.settleNoReply
  split
  · exact s.resolve_settles i _
  · split
    · exact (s.resolve_settles i _).trans (State.makeSilent_settles _ _)
    · exact s.modMessage_settles i _

theorem State.settleMessage_settles (s : State) (i : Nat) (m : Message) (mark : Option Mark)
    (w : WindowResult) : Settles s (s.settleMessage i m mark w) := by
  cases w
  · exact s.resolve_settles i _
  · exact (s.holdPeer_settles m.dest).trans (State.requeueRefused_settles _ i mark)
  · exact s.settleNoReply_settles i m mark

theorem State.clearInFlight_settles (s : State) : Settles s s.clearInFlight := s.modEngine_settles _

theorem State.settleWindow_settles (s : State) (w : WindowResult) : Settles s (s.settleWindow w) := by
  unfold State.settleWindow
  split
  · split
    · exact s.clearInFlight_settles
    · next m _ =>
      split
      · exact (s.settleMessage_settles _ m _ w).trans (State.clearInFlight_settles _)
      · exact s.clearInFlight_settles
  · exact s.clearInFlight_settles

theorem State.withdrawInFlight_settles (s : State) : Settles s s.withdrawInFlight := by
  unfold State.withdrawInFlight
  split
  · split
    · exact s.clearInFlight_settles
    · split
      · exact (s.resolve_settles _ _).trans (State.clearInFlight_settles _)
      · exact (s.modMessage_settles _ _).trans (State.clearInFlight_settles _)
      · exact s.clearInFlight_settles
  · exact s.clearInFlight_settles

theorem State.completeInFlight_settles (s : State) : Settles s s.completeInFlight := by
  unfold State.completeInFlight
  split
  · split
    · exact s.clearInFlight_settles
    · split
      · dsimp only
        split
        · exact ((s.modMessage_settles _ _).trans (State.resolve_settles _ _ _)).trans
            (State.clearInFlight_settles _)
        · exact (s.modMessage_settles _ _).trans (State.modMessage_settles _ _ _)
      · exact s.clearInFlight_settles
  · exact s.clearInFlight_settles

/-! ### What settling leaves in flight -/

/-- A closed window leaves nothing in flight (R97, R108). -/
@[simp] theorem State.settleWindow_inFlight (s : State) (w : WindowResult) :
    (s.settleWindow w).engine.inFlight = .none := by
  unfold State.settleWindow
  split <;> [(split <;> [rfl; (split <;> rfl)]); rfl]

/-- A collision leaves nothing in flight (R97, R105). -/
@[simp] theorem State.withdrawInFlight_inFlight (s : State) : s.withdrawInFlight.engine.inFlight = .none := by
  unfold State.withdrawInFlight
  split <;> [(split <;> [rfl; (split <;> rfl)]); rfl]

/-! ### What a resolution does -/

/-- R92: an order that finds the slot FREE does nothing. -/
theorem State.resolve_free (s : State) (i : Nat) (r : MsgResult) (h : (s.slot i).msg = none) :
    s.resolve i r = s := by
  simp [State.resolve, h]

/-- R92: an order that finds the slot DONE does nothing. -/
theorem State.resolve_done (s : State) (i : Nat) (r r' : MsgResult) (m : Message) (h : (s.slot i).msg = some m)
    (hd : m.state = .done r') : s.resolve i r = s := by
  simp [State.resolve, h, hd]

/-- R92: a message not yet resolved leaves its queue, hands its outcome over, and the queues are watched. -/
theorem State.resolve_live (s : State) (i : Nat) (r : MsgResult) (m : Message) (h : (s.slot i).msg = some m)
    (hd : ∀ r', m.state ≠ .done r') :
    s.resolve i r = ((s.dequeue m.dest i).handOutcome i m r).watchQueues := by
  unfold State.resolve
  rw [h]
  dsimp only
  split
  · next r' hr => exact absurd hr (hd r')
  · rfl

/-- R137 with room in the outcome queue: the record enters and the slot becomes FREE with its tag. -/
theorem State.handOutcome_room (s : State) (i : Nat) (m : Message) (r : MsgResult)
    (h : s.outcomes.queue.length < 16) :
    s.handOutcome i m r =
      (s.modOutcomes fun o =>
        { o with queue := o.queue ++ [⟨i, (s.slot i).tag, m.dest, r, m.attempts⟩] }).setSlot i
        ⟨(s.slot i).tag, none⟩ := by
  simp [State.handOutcome, h]

/-- R137 with a full outcome queue: the slot becomes DONE and joins the waiting-outcome list. -/
theorem State.handOutcome_full (s : State) (i : Nat) (m : Message) (r : MsgResult)
    (h : ¬ s.outcomes.queue.length < 16) :
    s.handOutcome i m r =
      (s.modOutcomes fun o => { o with waiting := o.waiting ++ [i] }).setSlot i
        ⟨(s.slot i).tag, some { m with state := .done r }⟩ := by
  simp [State.handOutcome, h]
end Sys2Proof.Machine
end

