-- ==== Sys2Proof/Laws/Station.lean ====
section
/-! SUPPORT. The operations of the station controller and the access controller: one relation says all they can
change, one lemma per operation says that it changes no more; and what OFF, the hold condition and the
wants-line condition are afterwards. -/

namespace Sys2Proof.Machine

/-- All that the shared operations of the station controller and the access controller can change: the station
but for its configuration, address and epochs; the access controller; H; and what settling changes. -/
def Controls (s t : State) : Prop :=
  ∃ station access peers outbound outcomes engine h,
    t = { s with
      station := station
      access := access
      peers := peers
      outbound := outbound
      outcomes := outcomes
      engine := engine
      inbound := { s.inbound with h := h } } ∧
    station.config = s.station.config ∧ station.address = s.station.address ∧
    station.epoch = s.station.epoch ∧ station.prevEpoch = s.station.prevEpoch

theorem Controls.refl (s : State) : Controls s s :=
  ⟨_, _, _, _, _, _, _, rfl, rfl, rfl, rfl, rfl⟩

theorem Controls.trans {s t u : State} : Controls s t → Controls t u → Controls s u
  | ⟨_, _, _, _, _, _, _, h, a, b, c, d⟩, ⟨_, _, _, _, _, _, _, k, a', b', c', d'⟩ =>
    ⟨_, _, _, _, _, _, _, by rw [k, h], by rw [a', h]; exact a, by rw [b', h]; exact b,
      by rw [c', h]; exact c, by rw [d', h]; exact d⟩

theorem Settles.controls {s t : State} (h : Settles s t) : Controls s t := by
  obtain ⟨_, _, _, _, _, rfl⟩ := h
  exact ⟨_, _, _, _, _, _, _, rfl, rfl, rfl, rfl, rfl⟩

section
variable {s t : State} (h : Controls s t)
include h

theorem Controls.pins : t.pins = s.pins := by
  obtain ⟨_, _, _, _, _, _, _, rfl, _⟩ := h; rfl
theorem Controls.line : t.line = s.line := by
  obtain ⟨_, _, _, _, _, _, _, rfl, _⟩ := h; rfl
theorem Controls.counters : t.counters = s.counters := by
  obtain ⟨_, _, _, _, _, _, _, rfl, _⟩ := h; rfl
theorem Controls.link : t.link = s.link := by
  obtain ⟨_, _, _, _, _, _, _, rfl, _⟩ := h; rfl
theorem Controls.generator : t.generator = s.generator := by
  obtain ⟨_, _, _, _, _, _, _, rfl, _⟩ := h; rfl
theorem Controls.ticks : t.ticks = s.ticks := by
  obtain ⟨_, _, _, _, _, _, _, rfl, _⟩ := h; rfl
theorem Controls.pending : t.pending = s.pending := by
  obtain ⟨_, _, _, _, _, _, _, rfl, _⟩ := h; rfl
theorem Controls.records : t.inbound.records = s.inbound.records := by
  obtain ⟨_, _, _, _, _, _, _, rfl, _⟩ := h; rfl
theorem Controls.config : t.station.config = s.station.config := by
  obtain ⟨_, _, _, _, _, _, _, rfl, hc, _⟩ := h; exact hc
theorem Controls.address : t.station.address = s.station.address := by
  obtain ⟨_, _, _, _, _, _, _, rfl, _, ha, _⟩ := h; exact ha
theorem Controls.epoch : t.station.epoch = s.station.epoch := by
  obtain ⟨_, _, _, _, _, _, _, rfl, _, _, he, _⟩ := h; exact he
theorem Controls.prevEpoch : t.station.prevEpoch = s.station.prevEpoch := by
  obtain ⟨_, _, _, _, _, _, _, rfl, _, _, _, hp⟩ := h; exact hp

end

/-! ### One lemma per operation -/

theorem State.modAccess_controls (s : State) (f : Access → Access) : Controls s (s.modAccess f) :=
  ⟨_, _, _, _, _, _, _, rfl, rfl, rfl, rfl, rfl⟩

theorem State.modStation_controls (s : State) (f : Station → Station)
    (hc : (f s.station).config = s.station.config := by rfl)
    (ha : (f s.station).address = s.station.address := by rfl)
    (he : (f s.station).epoch = s.station.epoch := by rfl)
    (hp : (f s.station).prevEpoch = s.station.prevEpoch := by rfl) : Controls s (s.modStation f) :=
  ⟨_, _, _, _, _, _, _, rfl, hc, ha, he, hp⟩

theorem State.reevalHold_controls (s : State) : Controls s s.reevalHold :=
  ⟨_, _, _, _, _, _, _, rfl, rfl, rfl, rfl, rfl⟩

theorem State.setH_controls (s : State) (h : Bool) : Controls s (s.setH h) := by
  unfold State.setH
  split
  exacts [.refl s, ⟨_, _, _, _, _, _, _, rfl, rfl, rfl, rfl, rfl⟩]

theorem State.placeNotice_controls (s : State) (r : Reason) : Controls s (s.placeNotice r) :=
  ⟨_, _, _, _, _, _, _, rfl, rfl, rfl, rfl, rfl⟩

theorem State.flagChange_controls (s : State) : Controls s s.flagChange :=
  ⟨_, _, _, _, _, _, _, rfl, rfl, rfl, rfl, rfl⟩

theorem State.frameSent_controls (s : State) (kind : FrameKind) (h : Bool) : Controls s (s.frameSent kind h) :=
  ⟨_, _, _, _, _, _, _, rfl, rfl, rfl, rfl, rfl⟩

theorem State.enterActive_controls (s : State) : Controls s s.enterActive :=
  ⟨_, _, _, _, _, _, _, rfl, rfl, rfl, rfl, rfl⟩

theorem State.contendOrIdle_controls (s : State) : Controls s s.contendOrIdle := s.modAccess_controls _

theorem State.applyWants_controls (s : State) : Controls s s.applyWants := by
  unfold State.applyWants
  split
  exacts [s.modAccess_controls _, .refl s]

theorem State.closeWindow_controls (s : State) (w : WindowResult) : Controls s (s.closeWindow w) :=
  (s.settleWindow_settles w).controls.trans (State.modAccess_controls _ _)

theorem State.closeOpenWindow_controls (s : State) : Controls s s.closeOpenWindow := by
  unfold State.closeOpenWindow
  split
  exacts [s.closeWindow_controls _, .refl s]

theorem State.enterOff_controls (s : State) : Controls s s.enterOff := by
  unfold State.enterOff
  exact s.closeOpenWindow_controls.trans (State.modAccess_controls _ _)

theorem State.leaveOff_controls (s : State) : Controls s s.leaveOff :=
  (s.modAccess_controls _).trans (State.applyWants_controls _)

theorem State.enterUnjoined_controls (s : State) : Controls s s.enterUnjoined :=
  ((s.modStation_controls _).trans (State.modPeers_settles _ _).controls).trans (State.enterOff_controls _)

theorem State.lineFault_controls (s : State) (reason : FaultReason) : Controls s (s.lineFault reason) := by
  have blamed := s.closeOpenWindow_controls.trans
    (s.closeOpenWindow.modStation_controls fun st => { st with faultReason := reason })
  unfold State.lineFault
  split
  · exact (blamed.trans (State.modStation_controls _ _)).trans (State.enterOff_controls _)
  · exact (blamed.trans (State.enterUnjoined_controls _)).trans (State.flagChange_controls _)
  · exact ((blamed.trans (State.abandonAll_settles _).controls).trans
      (State.enterUnjoined_controls _)).trans (State.flagChange_controls _)
  · exact .refl s
  · exact .refl s

/-! ### What stands after the operation -/

/-- R50: after its re-evaluation the HOLD notice is pending exactly while the hold condition holds. -/
theorem State.reevalHold_exact (s : State) : HoldNoticeExact s.reevalHold := rfl

@[simp] theorem State.setH_h (s : State) (h : Bool) : (s.setH h).inbound.h = h := by
  unfold State.setH
  split
  · next hh => exact hh
  · rfl

/-- R32: the close of a window leaves the access controller as it was, but for the mark of the window. -/
theorem State.closeWindow_access (s : State) (w : WindowResult) :
    (s.closeWindow w).access = { s.access with occupied := false } := by
  show ({ (s.settleWindow w).access with occupied := false } : Access) = _
  rw [(s.settleWindow_settles w).access]

/-- The close of an open window keeps the station state. -/
theorem State.closeOpenWindow_state (s : State) : s.closeOpenWindow.station.state = s.station.state := by
  unfold State.closeOpenWindow
  split
  · exact (s.settleWindow_settles _).station_state
  · rfl

/-- R21: OFF, with the recovery count started exactly in LINE_FAULT. -/
theorem State.enterOff_access (s : State) :
    s.enterOff.access = { Access.reset with recovery := decide (s.station.state = .lineFault) } := by
  show ({ Access.reset with recovery := decide (s.closeOpenWindow.station.state = .lineFault) } : Access) = _
  rw [s.closeOpenWindow_state]

/-- R53, R21: in UNJOINED the access controller is as after a reset. -/
theorem State.enterUnjoined_access (s : State) : s.enterUnjoined.access = Access.reset := by
  unfold State.enterUnjoined
  rw [State.enterOff_access]
  rfl

theorem State.enterUnjoined_state (s : State) : s.enterUnjoined.station.state = .unjoined := by
  show (State.closeOpenWindow _).station.state = _
  rw [State.closeOpenWindow_state]
  rfl

/-! ### The wants-line condition -/

@[simp] theorem State.wantsLine_modAccess (s : State) (f : Access → Access) :
    (s.modAccess f).wantsLine = s.wantsLine := rfl

/-- R22: after acting on the condition, an IDLE access controller wants nothing. -/
theorem State.applyWants_idle (s : State) : IdleWantsNothing s.applyWants := by
  intro h
  unfold State.applyWants at h ⊢
  split at h
  · next hc => by_cases hl : s.lineIdle = true <;> simp [hl] at h
  · next hc =>
    rw [if_neg hc]
    by_contra hw
    exact hc ⟨h, by simpa using hw⟩

/-- R30, R32, R34: after GAP or IDLE has been chosen, an IDLE access controller wants nothing. -/
theorem State.contendOrIdle_idle (s : State) : IdleWantsNothing s.contendOrIdle := by
  intro h
  by_cases hw : s.wantsLine = true
  · simp [State.contendOrIdle, hw] at h
  · simpa [State.contendOrIdle] using hw

end Sys2Proof.Machine
end

