-- ==== Sys2Proof/Laws/HostLink.lean ====
section
/-! SUPPORT. The host link: what a reset leaves of a burst, what presenting a request can do, that no answer touches
the pins, the link, the ticks or the queue, and what the end of a transaction leaves of the link. -/

namespace Sys2Proof.Machine

/-- Everything the host link and the surroundings own stands: the pins, the link, the ticks and the queue. -/
def Serves (s t : State) : Prop :=
  t.pins = s.pins ∧ t.link = s.link ∧ t.ticks = s.ticks ∧ t.pending = s.pending

theorem Serves.refl (s : State) : Serves s s := ⟨rfl, rfl, rfl, rfl⟩

theorem Serves.trans {s t u : State} : Serves s t → Serves t u → Serves s u
  | ⟨a, b, c, d⟩, ⟨a', b', c', d'⟩ => ⟨a'.trans a, b'.trans b, c'.trans c, d'.trans d⟩

theorem Controls.serves {s t : State} (h : Controls s t) : Serves s t := ⟨h.pins, h.link, h.ticks, h.pending⟩

theorem Settles.serves {s t : State} (h : Settles s t) : Serves s t := h.controls.serves

/-! ### Resets -/

/-- The burst of the line after a reset is an ignored one without characters (R19). -/
theorem Line.reset_burst_ignored {under : Option Burst} {rxdMark : Bool} {b : Burst}
    (h : (Line.reset under rxdMark).burst = some b) : b = ⟨b.own, true, [], 0, false⟩ := by
  unfold Line.reset at h
  cases under <;> cases rxdMark <;> simp_all <;> cases h <;> rfl

/-- What is under way at a reset: nothing where an idle longer than 1 ct has ended it outside the own sending. -/
theorem State.burstUnderWay_cases (s : State) :
    (s.de = false ∧ s.line.over = true ∧ s.burstUnderWay = none) ∨ s.burstUnderWay = s.line.burst := by
  unfold State.burstUnderWay
  cases s.de <;> cases s.line.over <;> simp

/-- An ignored burst is not heard (R6). -/
theorem State.hears_of_ignored (s : State) {b : Burst} (h : b.ignored = true) : s.hears b = false := by
  simp [State.hears, h]

/-! ### Presenting a request -/

/-- An occupied slot: the request is discarded and DISCARDED set (R152). -/
theorem State.present_occupied (s : State) (code : Byte) (answer : State → Answer) (r : Reply)
    (h : s.link.reply = some r) :
    s.present code answer = { s with link := { s.link with discarded := true } } := by
  simp [State.present, h, State.modLink]

/-- An empty slot: the block's state with its reply in the slot (R152). -/
theorem State.present_free (s : State) (code : Byte) (answer : State → Answer) (h : s.link.reply = none) :
    s.present code answer = { (answer s).state with
      link := { (answer s).state.link with
        reply := some ⟨code, (answer s).result, (answer s).data⟩ } } := by
  simp [State.present, h, State.modLink]

/-- A refusal answers two bytes and changes nothing else (R164). -/
theorem State.present_unchanged (s : State) (code : Byte) (answer : State → Answer) (r : ReplyResult)
    (h : s.link.reply = none) (ha : answer s = s.unchanged r) :
    s.present code answer = { s with link := { s.link with reply := some ⟨code, r, []⟩ } } := by
  rw [State.present_free s code answer h, ha]
  rfl

/-! ### What an answer can change -/

theorem State.unchanged_serves (s : State) (r : ReplyResult) : Serves s (s.unchanged r).state := .refl s

theorem answerStatus_serves (s : State) : Serves s (answerStatus s).state := .refl s

/-- A new rate touches the line alone (R2). -/
theorem State.changeRate_serves (s : State) (rate : Nat) : Serves s (s.changeRate rate) := by
  unfold State.changeRate
  split
  · exact .refl s
  · exact ⟨rfl, rfl, rfl, rfl⟩

theorem answerConfigure_serves (a b c d e f g h : Byte) (s : State) :
    Serves s (answerConfigure a b c d e f g h s).state := by
  unfold answerConfigure
  dsimp only
  split
  · exact .refl s
  split
  · refine (s.changeRate_serves (configOf a b c d e f g h).rate).trans ?_
    exact Serves.trans (t := (s.changeRate _).modStation _) ⟨rfl, rfl, rfl, rfl⟩ (State.setH_controls _ _).serves
  · exact .refl s

theorem State.startJoin_serves (s : State) : Serves s s.startJoin := by
  refine Serves.trans ?_ (State.leaveOff_controls _).serves
  exact ⟨rfl, rfl, rfl, rfl⟩

theorem answerJoin_serves (s : State) : Serves s (answerJoin s).state := by
  unfold answerJoin
  split
  · exact .refl s
  split
  · exact .refl s
  · exact s.startJoin_serves

theorem State.startLeave_serves (s : State) (m : LeaveMode) : Serves s (s.startLeave m) := by
  have first : Serves s (s.modStation fun st => { st with state := .leaving, leaveMode := some m }).reevalHold :=
    ⟨rfl, rfl, rfl, rfl⟩
  refine Serves.trans ?_ (State.applyWants_controls _).serves
  refine Serves.trans ?_ (State.watchQueues_settles _).serves
  cases m with
  | drain => exact first
  | abandon => exact first.trans (State.abandonAll_settles _).serves

theorem State.changeLeave_serves (s : State) (m : LeaveMode) : Serves s (s.changeLeave m) := by
  unfold State.changeLeave
  split
  · refine Serves.trans ?_ (State.applyWants_controls _).serves
    exact Serves.trans (t := s.modStation _) ⟨rfl, rfl, rfl, rfl⟩ (State.abandonAll_settles _).serves
  · exact .refl s

theorem State.leaveJoining_serves (s : State) : Serves s s.leaveJoining := by
  unfold State.leaveJoining
  split
  · exact ⟨rfl, rfl, rfl, rfl⟩
  · exact s.enterUnjoined_controls.serves

theorem answerLeave_serves (mode : Byte) (s : State) : Serves s (answerLeave mode s).state := by
  unfold answerLeave
  split
  · exact .refl s
  split
  · exact .refl s
  · exact s.leaveJoining_serves
  · exact s.startLeave_serves _
  · exact s.changeLeave_serves _
  · exact s.abandonAll_settles.serves.trans s.abandonAll.enterUnjoined_controls.serves

theorem State.allocate_serves (s : State) (i : Nat) (m : Message) : Serves s (s.allocate i m) :=
  ((s.setSlot_settles i _).trans ((s.setSlot i _).modQueue_settles m.dest _)).serves.trans
    (State.applyWants_controls _).serves

theorem answerPost_serves (dest cls length : Byte) (payload : List Byte) (s : State) :
    Serves s (answerPost dest cls length payload s).state := by
  unfold answerPost
  split
  · exact .refl s
  split
  · exact .refl s
  split
  · exact .refl s
  · exact s.allocate_serves _ _

theorem answerPostBytes_serves (dest cls length : Byte) (payload : List Byte) (s : State) :
    Serves s (answerPostBytes dest cls length payload s).state := by
  unfold answerPostBytes
  split
  · exact .refl s
  · exact answerPost_serves _ _ _ _ s

theorem answerCancel_serves (slot tag : Byte) (s : State) : Serves s (answerCancel slot tag s).state := by
  unfold answerCancel
  split
  · exact .refl s
  split
  · exact .refl s
  · exact (s.resolve_settles _ _).serves.trans (State.applyWants_controls _).serves
  · exact (s.resolve_settles _ _).serves.trans (State.applyWants_controls _).serves
  · exact (State.setMark_settles _ s _).serves
  · exact (State.setMark_settles _ s _).serves

theorem answerFetch_serves (s : State) : Serves s (answerFetch s).state := by
  unfold answerFetch
  split
  · exact .refl s
  · refine Serves.trans ?_ (State.applyWants_controls _).serves
    exact Serves.trans (t := s.modInbound _) ⟨rfl, rfl, rfl, rfl⟩ (State.setH_controls _ _).serves

theorem State.freeDone_settles (s : State) (i : Nat) : Settles s (s.freeDone i) := by
  unfold State.freeDone
  split
  · exact s.setSlot_settles i _
  · exact .refl s

theorem State.refill_settles (s : State) : Settles s s.refill :=
  (s.modOutcomes_settles _).trans (Settles.foldl State.freeDone_settles _ _)

theorem answerTakeOutcomes_serves (max : Byte) (s : State) : Serves s (answerTakeOutcomes max s).state := by
  unfold answerTakeOutcomes
  split
  · exact .refl s
  split
  · exact .refl s
  · exact ((s.modOutcomes_settles _).trans (State.refill_settles _)).serves

theorem answerReadCounters_serves (clear : Byte) (s : State) : Serves s (answerReadCounters clear s).state := by
  unfold answerReadCounters
  split
  · exact .refl s
  split
  · exact ⟨rfl, rfl, rfl, rfl⟩
  · exact .refl s

theorem answerReadPeer_state (address : Byte) (s : State) : (answerReadPeer address s).state = s := by
  unfold answerReadPeer
  dsimp only
  split <;> rfl

/-! ### The end of a transaction -/

@[simp] theorem Transaction.sent_length (t : Transaction) (n : Nat) : (t.sent n).length = n := by
  simp only [Transaction.sent, List.length_take, List.length_append, List.length_replicate]
  omega

@[simp] theorem Link.finish_txn (l : Link) (t : Transaction) (sdi : Bits) : (l.finish t sdi).txn = none := rfl

@[simp] theorem Link.finish_selLow (l : Link) (t : Transaction) (sdi : Bits) : (l.finish t sdi).selLow = false := rfl

@[simp] theorem Link.clock_reply (l : Link) (t : Transaction) (sdi : Bits) : (l.clock t sdi).reply = l.reply := rfl

@[simp] theorem Link.clock_sdo (l : Link) (t : Transaction) (sdi : Bits) :
    (l.clock t sdi).sdo = t.sent (t.sdi ++ sdi).length := rfl

/-- All that settling the noted reply can do (R150). -/
theorem Link.consume_cases (l : Link) (t : Transaction) (n : Nat) :
    l.consume t n = l ∨
      ∃ r, t.noted = some r ∧ 1 + r.bytes.length ≤ n ∧ l.consume t n = { l with reply := none } := by
  unfold Link.consume
  cases t.noted with
  | none => exact .inl rfl
  | some r =>
    dsimp only
    split
    · exact .inr ⟨r, rfl, ‹_›, rfl⟩
    · exact .inl rfl

theorem Link.finish_sdo (l : Link) (t : Transaction) (sdi : Bits) :
    (l.finish t sdi).sdo = t.sent (t.sdi ++ sdi).length := by
  unfold Link.finish
  rcases (l.clock t sdi).consume_cases t ((t.sdi.length + sdi.length) / 8) with h | ⟨r, -, -, h⟩ <;> rw [h] <;> rfl

/-- The reply stays unless it was noted and read whole (R150). -/
theorem Link.finish_reply (l : Link) (t : Transaction) (sdi : Bits) :
    (l.finish t sdi).reply =
      match t.noted with
      | none => l.reply
      | some r => if 1 + r.bytes.length ≤ (t.sdi.length + sdi.length) / 8 then none else l.reply := by
  unfold Link.finish Link.consume Link.clock
  cases t.noted <;> (dsimp only; repeat' (first | rfl | split))

end Sys2Proof.Machine
end

