-- ==== Sys2Proof/Laws/Receiver.lean ====
section
/-! SUPPORT. The receiver and the line: what one half bit time can do, what hearing many keeps, and the bits of a
byte on the host link. -/

namespace Sys2Proof.Machine

/-! ### One half bit time -/

@[simp] theorem Burst.add_own (b : Burst) (c : RxChar) : (b.add c).own = b.own := rfl
@[simp] theorem Burst.add_ignored (b : Burst) (c : RxChar) : (b.add c).ignored = b.ignored := rfl
@[simp] theorem Burst.add_count (b : Burst) (c : RxChar) : (b.add c).count = b.count + 1 := rfl
@[simp] theorem Burst.add_faulted (b : Burst) (c : RxChar) : (b.add c).faulted = (b.faulted || !c.stop) := rfl

/-- A character's byte joins the first 71 (R5). -/
theorem Burst.add_bytes_length (b : Burst) (c : RxChar) (h : b.bytes.length = min b.count Config.frameMax) :
    (b.add c).bytes.length = min (b.add c).count Config.frameMax := by
  unfold Burst.add
  dsimp only
  split <;> simp_all <;> omega

@[simp] theorem Line.hear_rxd (l : Line) (mark : Bool) : (l.hear mark).rxd = mark := rfl

@[simp] theorem Line.hear_receiver (l : Line) (mark : Bool) :
    (l.hear mark).receiver = l.receiver.next l.rxd mark := rfl

/-- All that a half bit time does to the burst: nothing, or the character it completes joins it (R5). -/
theorem Line.hear_burst (l : Line) (mark : Bool) :
    (l.receiver.completes mark = none ∧ (l.hear mark).burst = l.burst) ∨
      ∃ c, l.receiver.completes mark = some c ∧ (l.hear mark).burst = l.burst.map fun b => b.add c := by
  unfold Line.hear
  cases h : l.receiver.completes mark with
  | none => exact .inl ⟨rfl, rfl⟩
  | some c => exact .inr ⟨c, rfl, rfl⟩

/-- A character completes only while one is received, and then the receiver is no longer busy (R3). -/
theorem Receiver.completes_some {r : Receiver} {mark : Bool} {c : RxChar} (h : r.completes mark = some c) :
    ∃ cells byte, r = .receiving cells byte ∧ Config.charCells ≤ cells + 1 ∧ c = ⟨byte, mark⟩ := by
  cases r with
  | waiting => cases h
  | broken => cases h
  | receiving cells byte =>
    by_cases hc : Config.charCells ≤ cells + 1
    · exact ⟨cells, byte, rfl, hc, by simpa [Receiver.completes, hc] using h.symm⟩
    · simp [Receiver.completes, hc] at h

/-! ### Many half bit times -/

@[simp] theorem Line.hearAll_nil (l : Line) : l.hearAll [] = l := rfl

theorem Line.hearAll_append (l : Line) (a b : Levels) : l.hearAll (a ++ b) = (l.hearAll a).hearAll b :=
  List.foldl_append

/-- What every half bit time keeps, hearing a burst keeps. -/
theorem Line.hearAll_keeps (inv : Line → Prop) (step : ∀ l mark, inv l → inv (l.hear mark)) (l : Line)
    (rxd : Levels) (h : inv l) : inv (l.hearAll rxd) := by
  induction rxd generalizing l with
  | nil => exact h
  | cons mark rest ih =>
    refine ih _ ?_
    dsimp only
    split
    · exact h
    · exact step l mark h

/-- What every half bit time keeps, hearing one character time keeps. -/
theorem Line.hearChar_keeps (inv : Line → Prop) (step : ∀ l mark, inv l → inv (l.hear mark)) (l : Line)
    (rxd : Levels) (h : inv l) : inv (l.hearChar rxd).1 := by
  have fold : ∀ (rxd : Levels) (p : Line × Option RxChar), inv p.1 →
      inv (rxd.foldl (fun p mark => (p.1.hear mark, (p.1.receiver.completes mark).or p.2)) p).1 := by
    intro rxd
    induction rxd with
    | nil => exact fun _ hp => hp
    | cons mark rest ih => exact fun p hp => ih _ (step p.1 mark hp)
  exact fold rxd (l, none) h

/-- What every half bit time keeps, a readback keeps. -/
theorem Line.compare_keeps (inv : Line → Prop) (step : ∀ l mark, inv l → inv (l.hear mark)) (bytes : List Byte)
    (l : Line) (rxd : Levels) (h : inv l) : inv (l.compare bytes rxd).1 := by
  induction bytes generalizing l rxd with
  | nil => exact h
  | cons b bs ih =>
    have heard := l.hearChar_keeps inv step (rxd.take Config.charCells) h
    unfold Line.compare
    dsimp only
    split
    · exact heard
    · split
      · exact ih _ _ heard
      · exact heard

/-- A half bit time leaves what the burst is: own, or ignored. -/
theorem Line.hear_class (l : Line) (mark : Bool) :
    (l.hear mark).burst.map (fun b => (b.own, b.ignored)) = l.burst.map fun b => (b.own, b.ignored) := by
  rcases l.hear_burst mark with ⟨-, h⟩ | ⟨c, -, h⟩
  · rw [h]
  · rw [h, Option.map_map]
    rfl

theorem Line.hear_counted (l : Line) (mark : Bool) (h : l.Counted) : (l.hear mark).Counted := by
  intro b hb
  rcases l.hear_burst mark with ⟨-, e⟩ | ⟨c, -, e⟩
  · exact h b (e ▸ hb)
  · rw [e, Option.map_eq_some_iff] at hb
    obtain ⟨a, ha, rfl⟩ := hb
    exact a.add_bytes_length c (h a ha)

/-- What releasing DE can do: the line stays, or loses a burst in which nothing was active. -/
theorem Line.released_cases (l : Line) :
    l.released = l ∨ (l.over = true ∧ l.released = { l with burst := none }) := by
  unfold Line.released
  split
  · exact .inr ⟨‹_›, rfl⟩
  · exact .inl rfl

/-! ### Activity -/

/-- On an idle line a half bit time at mark only lengthens the idle (R4). -/
theorem Line.hear_mark_of_idle {l : Line} (h : l.idle = true) :
    (l.hear true).idle = true ∧ (l.hear true).quiet = l.quiet + 1 := by
  obtain ⟨rxd, receiver, quiet, burst⟩ := l
  cases receiver <;> simp_all [Line.idle, Line.hear, Receiver.busy, Receiver.next, Receiver.completes]

/-- On an idle line a half bit time at space is activity (R4). -/
theorem Line.hear_space (l : Line) : (l.hear false).idle = false := rfl

theorem Line.activeIn_of_active {l : Line} (h : l.idle = false) (rxd : Levels) : l.activeIn rxd = true := by
  cases rxd <;> simp [Line.activeIn, h]

/-- When levels show activity: the line is active already, or they fall to space after an idle of at most 1 ct. -/
theorem Line.activeIn_iff (l : Line) (rxd : Levels) :
    l.activeIn rxd = true ↔ l.idle = false ∨
      ∃ k < rxd.length, rxd[k]? = some false ∧ (∀ j < k, rxd[j]? = some true) ∧ l.quiet + k ≤ Config.charCells := by
  induction rxd generalizing l with
  | nil => simp [Line.activeIn]
  | cons mark rest ih =>
    by_cases hi : l.idle = true
    swap
    · simp only [Bool.not_eq_true] at hi
      exact ⟨fun _ => .inl hi, fun _ => l.activeIn_of_active hi _⟩
    have split : l.activeIn (mark :: rest) = true ↔ l.quiet ≤ Config.charCells ∧ (l.hear mark).activeIn rest = true := by
      simp [Line.activeIn, Line.over, hi]
    rw [split]
    simp only [hi, Bool.true_eq_false, false_or]
    cases mark with
    | false =>
      constructor
      · exact fun h => ⟨0, by simp, rfl, by simp, by simpa using h.1⟩
      · rintro ⟨k, -, -, -, hq⟩
        exact ⟨by omega, (l.hear false).activeIn_of_active l.hear_space rest⟩
    | true =>
      obtain ⟨hidle, hquiet⟩ := Line.hear_mark_of_idle hi
      rw [ih, hidle, hquiet]
      constructor
      · rintro ⟨-, h | ⟨k, hk, hs, hm, hq⟩⟩
        · cases h
        · refine ⟨k + 1, by simpa using hk, by simpa using hs, ?_, by omega⟩
          intro j hj
          cases j with
          | zero => rfl
          | succ j => simpa using hm j (by omega)
      · rintro ⟨k, hk, hs, hm, hq⟩
        cases k with
        | zero => cases hs
        | succ k =>
          exact ⟨by omega, .inr ⟨k, by simpa using hk, by simpa using hs,
            fun j hj => by simpa using hm (j + 1) (by omega), by omega⟩⟩

/-! ### Bits of the host link -/

@[simp] theorem bitsOf_length (b : Byte) : (bitsOf b).length = 8 := by simp [bitsOf]

/-- Eight bits form the byte they spell, most significant first (R146). -/
theorem ofBits_getMsbD (b : Byte) :
    BitVec.ofBoolListBE [b.getMsbD 0, b.getMsbD 1, b.getMsbD 2, b.getMsbD 3, b.getMsbD 4, b.getMsbD 5,
      b.getMsbD 6, b.getMsbD 7] = b := by
  revert b
  decide

theorem bytesOf_bitsOf (b : Byte) (rest : Bits) : bytesOf (bitsOf b ++ rest) = b :: bytesOf rest :=
  congrArg (· :: bytesOf rest) (ofBits_getMsbD b)

end Sys2Proof.Machine
end

