-- ==== Sys2Proof/Laws/Reception.lean ====
section
/-! SUPPORT. Reception and the tick: what a found frame can change at each stage, and what the tick leaves of
the peers, the slots and the queues. -/

namespace Sys2Proof.Machine

/-! ### The stages of a heard frame -/

theorem State.addressConflict_serves (s : State) : Serves s s.addressConflict := by
  unfold State.addressConflict
  dsimp only
  split
  · refine Serves.trans ?_ (State.flagChange_controls _).serves
    refine Serves.trans ?_ (State.enterUnjoined_controls _).serves
    exact ⟨rfl, rfl, rfl, rfl⟩
  · exact ⟨rfl, rfl, rfl, rfl⟩

theorem State.departure_settles (s : State) (a : Nat) : Settles s (s.departure a) :=
  (s.makeSilent_settles a).trans ((s.makeSilent a).modPeer_settles a _)

theorem State.answer_controls (s : State) (kind : FrameKind) (f : Frame) : Controls s (s.answer kind f) :=
  s.modAccess_controls _

theorem State.applyHoldLevel_controls (s : State) : Controls s s.applyHoldLevel := s.setH_controls _

theorem State.appendData_serves (s : State) (f : Frame) : Serves s (s.appendData f) := by
  refine Serves.trans ?_ (State.applyHoldLevel_controls _).serves
  exact Serves.trans (t := s.listRecord _) ⟨rfl, rfl, rfl, rfl⟩ (State.modPeer_settles _ _ _).serves

theorem State.receiveData_serves (s : State) (f : Frame) : Serves s (s.receiveData f) := by
  unfold State.receiveData
  split
  · split
    · exact Serves.trans (t := s.count _) ⟨rfl, rfl, rfl, rfl⟩ (State.answer_controls _ _ _).serves
    · split
      · exact Serves.trans (t := s.count _) ⟨rfl, rfl, rfl, rfl⟩ (State.answer_controls _ _ _).serves
      · exact (s.appendData_serves f).trans (State.answer_controls _ _ _).serves
  · exact .refl s

theorem State.receiveDatagram_serves (s : State) (f : Frame) : Serves s (s.receiveDatagram f) := by
  unfold State.receiveDatagram
  split
  · split
    · exact ⟨rfl, rfl, rfl, rfl⟩
    · exact Serves.trans (t := s.listRecord _) ⟨rfl, rfl, rfl, rfl⟩ (State.applyHoldLevel_controls _).serves
  · exact .refl s

theorem State.route_serves (s : State) (f : Frame) : Serves s (s.route f) := by
  unfold State.route
  split
  · split
    · exact s.receiveData_serves f
    · exact .refl s
  · split
    · exact s.receiveDatagram_serves f
    · exact .refl s
  · split
    · exact ⟨rfl, rfl, rfl, rfl⟩
    · exact .refl s
  · split
    · exact ⟨rfl, rfl, rfl, rfl⟩
    · exact .refl s
  · exact (s.departure_settles _).serves
  · exact .refl s

theorem State.takeValid_serves (s : State) (f : Frame) : Serves s (s.takeValid f) := by
  unfold State.takeValid
  split
  · exact s.addressConflict_serves
  · exact (s.modPeer_settles _ _).serves.trans (State.route_serves _ f)

theorem State.takeFound_serves (s : State) (found : Found) : Serves s (s.takeFound found) := by
  cases found with
  | noFrame => exact .refl s
  | discarded k => exact ⟨rfl, rfl, rfl, rfl⟩
  | valid f => exact Serves.trans (t := s.count _) ⟨rfl, rfl, rfl, rfl⟩ (State.takeValid_serves _ f)

/-- All that the access controller does at an end of frame is its own and the window's. -/
theorem State.accessEnded_controls (s : State) (w : WindowResult) : Controls s (s.accessEnded w) := by
  unfold State.accessEnded
  split
  · exact s.modAccess_controls _
  · split
    · exact (s.closeWindow_controls w).trans (State.contendOrIdle_controls _)
    · exact .refl s
  · exact s.applyWants_controls

/-- Outside a reply window no activity occupies one (R31). -/
theorem State.occupyWindow_of_not_awaiting {s : State} (h : s.access.state ≠ .awaitReply) (rxd : Levels) :
    s.occupyWindow rxd = s := by
  unfold State.occupyWindow State.modAccess
  simp [h]

/-- In a reply window the levels of END_OF_FRAME change whether it is occupied, and nothing else (R31). -/
theorem State.occupyWindow_access {s : State} (h : s.access.state = .awaitReply) (rxd : Levels) :
    (s.occupyWindow rxd).access =
      { s.access with occupied := s.access.occupied || s.line.activeIn rxd } := by
  unfold State.occupyWindow State.modAccess
  simp [h]

theorem State.occupyWindow_controls (s : State) (rxd : Levels) : Controls s (s.occupyWindow rxd) :=
  s.modAccess_controls _

/-- The end of a burst leaves the link, the pins, the ticks and the queue. -/
theorem State.endBurst_serves (s : State) (b : Burst) (found : Found) : Serves s (s.endBurst b found) := by
  have ended : Serves s s.lineEnded := ⟨rfl, rfl, rfl, rfl⟩
  unfold State.endBurst
  split
  · exact (ended.trans (State.takeFound_serves _ found)).trans (State.accessEnded_controls _ _).serves
  · exact ended.trans (State.accessEnded_controls _ _).serves

/-- A discarded or empty burst changes no more than its counter and what the access controller owns. -/
theorem State.takeFound_discarded (s : State) (k : CounterName) : s.takeFound (.discarded k) = s.count k := rfl

theorem State.takeFound_noFrame (s : State) : s.takeFound .noFrame = s := rfl

/-! ### The tick -/

@[simp] theorem Timer.countDown_runs (t : Timer) (ms : Nat) : (t.countDown ms).runs = t.runs := by cases t <;> rfl

@[simp] theorem Timer.countDown_zero (t : Timer) : t.countDown 0 = t := by cases t <;> rfl

/-- A timer is due once its whole interval has passed. -/
theorem Timer.countDown_due (t : Timer) (ms : Nat) :
    (t.countDown ms).due = true ↔ ∃ left, t = .running left ∧ left ≤ ms := by
  cases t with
  | stopped => simp [Timer.countDown, Timer.due]
  | runOut => simp [Timer.countDown, Timer.due]
  | running left =>
    rcases Nat.eq_zero_or_pos (left - ms) with h | h
    · simp [Timer.countDown, h, Timer.due]
      omega
    · obtain ⟨k, hk⟩ := Nat.exists_eq_succ_of_ne_zero h.ne'
      simp [Timer.countDown, hk, Timer.due]
      omega

theorem insertRanked_perm (rank : Nat → Nat) (x : Nat × Instr) (l : List (Nat × Instr)) :
    (insertRanked rank x l).Perm (x :: l) := by
  induction l with
  | nil => exact .refl _
  | cons y ys ih =>
    unfold insertRanked
    split
    · exact .refl _
    · exact (ih.cons y).trans (List.Perm.swap x y ys)

/-- The free order loses no command and adds none. -/
theorem arrange_perm (rank : Nat → Nat) (cs : List Instr) : (arrange rank cs).Perm cs := by
  have sorted : ∀ l : List (Nat × Instr), (l.foldr (insertRanked rank) []).Perm l := by
    intro l
    induction l with
    | nil => exact .refl _
    | cons x xs ih => exact (insertRanked_perm rank x _).trans (ih.cons x)
  have h := (sorted (cs.zipIdx.map fun p => (p.2, p.1))).map fun p => p.2
  unfold arrange
  refine h.trans (List.Perm.of_eq ?_)
  simp [List.map_map, Function.comp_def]

section
variable (s : State) (ms : Nat)

@[simp] theorem State.elapse_pins : (s.elapse ms).pins = s.pins := rfl
@[simp] theorem State.elapse_line : (s.elapse ms).line = s.line := rfl
@[simp] theorem State.elapse_access : (s.elapse ms).access = s.access := rfl
@[simp] theorem State.elapse_engine : (s.elapse ms).engine = s.engine := rfl
@[simp] theorem State.elapse_inbound : (s.elapse ms).inbound = s.inbound := rfl
@[simp] theorem State.elapse_outcomes : (s.elapse ms).outcomes = s.outcomes := rfl
@[simp] theorem State.elapse_counters : (s.elapse ms).counters = s.counters := rfl
@[simp] theorem State.elapse_link : (s.elapse ms).link = s.link := rfl
@[simp] theorem State.elapse_generator : (s.elapse ms).generator = s.generator := rfl
@[simp] theorem State.elapse_ticks : (s.elapse ms).ticks = s.ticks + ms := rfl
@[simp] theorem State.elapse_pending : (s.elapse ms).pending = s.pending := rfl
@[simp] theorem State.elapse_queue (d : Nat) : (s.elapse ms).queue d = s.queue d := rfl

/-- No field of the station but its three timers changes with time. -/
theorem State.elapse_station :
    (s.elapse ms).station =
      { s.station with
        listen := s.station.listen.countDown ms
        beacon := s.station.beacon.countDown ms
        renewal := s.station.renewal.countDown ms } := rfl

end

end Sys2Proof.Machine
end

