-- ==== Sys2Proof/WellFormed.lean ====
section
/-! DEFINITION. Which commands name something the part has: a peer record, a slot, a readback no longer
than a frame. Bytes of a request, bits on SDI and levels on RXD may carry any value, so those commands are always
well formed (R163). -/

namespace Sys2Proof

/-- A peer operand names one of the 30 records (R61). -/
def peerOk (a : Nat) : Bool := 1 ≤ a && a ≤ Config.peers

/-- A slot operand names one of the 48 slots (R79). -/
def slotOk (i : Nat) : Bool := i < Config.slots

/-- A readback covers between one character and the characters of a whole frame (R17, Table 1-1). -/
def readbackOk (rxd : Levels) : Bool :=
  Config.charCells ≤ rxd.length && rxd.length ≤ Config.charCells * Config.frameMax

/-- The command's operands name things the part has. -/
def Instr.wellFormed : Instr → Bool
  | .pinReset _ _ _ => true
  | .transactionStart => true
  | .statusByteClocked _ => true
  | .transactionEnd _ _ _ => true
  | .nop => true
  | .status => true
  | .configure _ _ _ _ _ _ _ _ => true
  | .join => true
  | .leave _ => true
  | .restart _ _ => true
  | .post _ _ _ _ => true
  | .cancel _ _ => true
  | .fetch => true
  | .takeOutcomes _ => true
  | .readPeer _ => true
  | .readCounters _ => true
  | .activityStart _ => true
  | .endOfFrame _ => true
  | .accessGapComplete => true
  | .lineWin => true
  | .frameComplete rxd => readbackOk rxd
  | .collision rxd => readbackOk rxd
  | .replyGap => true
  | .replyComplete rxd => readbackOk rxd
  | .replyCollision rxd => readbackOk rxd
  | .replyWindowTimeout => true
  | .stuckLine => true
  | .lineQuiet => true
  | .joinListenExpiry _ => true
  | .beaconTimerExpiry _ => true
  | .holdRenewalExpiry _ => true
  | .presenceTimeout a _ => peerOk a
  | .holdTimerExpiry a _ => peerOk a
  | .retryTimerExpiry i _ => slotOk i

end Sys2Proof
end

