-- ==== Sys2Proof/Tests/Slice0.lean ====
section
/-! SUPPORT. Tests: the well-formedness checks, the spec's own examples, one or two steps per command, and for
every statement with hypotheses a witness that meets them, clause by clause. -/

open Sys2Proof Sys2Proof.Machine

namespace Sys2Proof.Tests

-- One kernel evaluation at a time: a thread for each at once can run the checker out of memory.
set_option Elab.async false

/-! ### States to test on -/

/-- The state a command answers. -/
def after (c : Instr) (s : State) : State :=
  match exec c s with
  | .next t => t
  | .fault _ => s
  | .refused _ => s

/-- ACTIVE at address 6, idle, nothing pending. -/
def active : State :=
  { State.reset with
    station := { State.reset.station with state := .active, beacon := .running 1000 }
    access := { State.reset.access with state := .idle } }

def inState (st : StationState) (a : AccessState) (s : State) : State :=
  (s.modStation fun x => { x with state := st }).modAccess fun x => { x with state := a }

def withReply (s : State) : State := s.modLink fun l => { l with reply := some ⟨0x01, .ok, [7]⟩ }

/-- A transaction under way whose status byte showed DISCARDED; `noted` is what it noted. -/
def inTransaction (noted : Option Reply) (s : State) : State :=
  s.modLink fun l => { l with reply := noted, discarded := true, selLow := true, txn := some ⟨0xC2, noted, []⟩ }

def theTransaction (noted : Option Reply) : Transaction := ⟨0xC2, noted, []⟩

/-- A message in slot `i` at the head of its queue. -/
def holding (i : Nat) (m : Message) (s : State) : State :=
  (s.setSlot i ⟨1, some m⟩).modQueue m.dest fun _ => [i]

def message (cls : MsgClass) (st : SlotState) : Message :=
  ⟨2, cls, [5], 1, if cls = .acked then some 9 else none, st⟩

/-- The message's frame is on the line from slot 47, after `n` collisions in a row. -/
def sending (cls : MsgClass) (mark : Option Mark) (n : Nat) : State :=
  let m := message cls (.onLine mark)
  ((holding 47 m active).modEngine fun e => { e with inFlight := .message 47 }).modAccess fun a =>
    { a with state := .sending, n := n, frame := some (active.messageFrame m) }

def messageSent (cls : MsgClass) : Frame := active.messageFrame (message cls .queued)

/-- The reply window of the message in slot 47 is open, with the attempts given. -/
def waiting (mark : Option Mark) (attempts : Nat) : State :=
  ((holding 47 { message .acked (.awaitReply mark) with attempts := attempts } active).modEngine fun e =>
    { e with inFlight := .message 47 }).modAccess fun a => { a with state := .awaitReply, stuck := true }

def waitingMessage (mark : Option Mark) (attempts : Nat) : Message :=
  { message .acked (.awaitReply mark) with attempts := attempts }

/-- A notice is on the line after `n` collisions in a row. -/
def noticing (r : Reason) (st : StationState) (n : Nat) : State :=
  let s := inState st .sending active
  (s.modEngine fun e => { e with inFlight := .notice r }).modAccess fun a =>
    { a with n := n, frame := some (s.noticeFrame r) }

def noticeSent (r : Reason) : Frame := active.noticeFrame r

/-- A burst of another station that has just begun. -/
def begun : Burst := ⟨false, false, [], 0, false⟩

/-- That burst is under way. -/
def hearing (s : State) : State := { s with line := ⟨true, .waiting, 0, some begun⟩ }

/-- Right after the own DATA frame's end point: its burst, and no idle yet. -/
def afterOwnData (s : State) : State := { s with line := ⟨true, .waiting, 0, some { begun with own := true }⟩ }

/-- What ACTIVE at address 6 hears in a burst with these levels. -/
def heard (rxd : Levels) : Found := (hearing active).found rxd

/-- SEL rises with the bits of these bytes clocked, most significant first. -/
def clocked (bytes : List Byte) : Instr := .transactionEnd (bytes.flatMap bitsOf) 6 true

/-- The inbound store holds `n` records. -/
def storing (n : Nat) (s : State) : State :=
  s.modInbound fun b => { b with records := List.replicate n ⟨2, .datagram, true, [1, 2]⟩ }

def notice (r : Reason) (source : Nat) : Frame := ⟨.notice r, 31, true, source, 5, 0, []⟩
def data (source dest seq : Nat) : Frame := ⟨.data, dest, false, source, 5, seq, [1, 2]⟩
def datagram (source dest : Nat) : Frame := ⟨.datagram, dest, false, source, 5, 0, []⟩
def ackFrom (source dest seq : Nat) : Frame := ⟨.ack, dest, false, source, 5, seq, []⟩
def refuseFrom (source dest seq : Nat) : Frame := ⟨.refuse, dest, true, source, 5, seq, []⟩

/-- Sixteen outcomes queued and slot 0 DONE behind them. -/
def owing : State :=
  ({ active with outcomes := ⟨List.replicate 16 ⟨5, 1, 2, .sent, 1⟩, [0]⟩ }).setSlot 0
    ⟨1, some (message .datagram (.done .sent))⟩

/-- A readback that fails at the first character. -/
def noise : Levels := List.replicate 20 true

/-! ### Well-formedness -/

theorem test_peer_0_is_refused : (Instr.presenceTimeout 0).wellFormed = false := by decide
theorem test_peer_31_is_refused : (Instr.presenceTimeout 31).wellFormed = false := by decide
theorem test_hold_peer_31_is_refused : (Instr.holdTimerExpiry 31).wellFormed = false := by decide
theorem test_peers_1_and_30_pass :
    (Instr.presenceTimeout 1).wellFormed && (Instr.holdTimerExpiry 30 7).wellFormed = true := by decide
theorem test_slot_48_is_refused : (Instr.retryTimerExpiry 48).wellFormed = false := by decide
theorem test_slot_47_passes : (Instr.retryTimerExpiry 47).wellFormed = true := by decide
theorem test_empty_readback_is_refused :
    (Instr.frameComplete []).wellFormed || (Instr.collision []).wellFormed ||
      (Instr.replyComplete []).wellFormed || (Instr.replyCollision []).wellFormed = false := by decide
theorem test_long_readback_is_refused :
    (Instr.frameComplete (List.replicate 1421 true)).wellFormed = false := by decide +kernel

/-! ### The spec's examples of encodings -/

/-- Section 1.4.1: the characters of the worked ACK with their CRC. -/
theorem test_worked_ack_bytes :
    (Frame.mk .ack 7 false 3 5 0x2A []).bytes = [0x47, 0x03, 0x50, 0x2A, 0x00, 0x4B, 0x8F] := by
  decide +kernel

/-- Section 1.4.1: the remainder after each byte. -/
theorem test_worked_crc_remainders :
    [0x47, 0x03, 0x50, 0x2A, 0x00].scanl crcByte 0xFFFF =
      [0xFFFF, 0xD9D3, 0xB937, 0x5B07, 0x69B6, 0x4B8F] := by decide +kernel

/-- Section 1.4.1: 0x47 on TXD, start bit 0, then 1 1 1 0 0 0 1 0, then the stop bit 1. -/
theorem test_character_on_txd :
    charBits 0x47 = [false, true, true, true, false, false, false, true, false, true] ∧
      (charLevels 0x47).length = 20 := by decide +kernel

/-- Section 1.4.1: a changed sequence character is a CRC error. -/
theorem test_worked_crc_error :
    heard (levelsOf [0x47, 0x03, 0x50, 0x2B, 0x00, 0x4B, 0x8F]) = .discarded .crcErrors := by
  decide +kernel

/-- R161: the examples of bytes 0 and 2. -/
theorem test_frame_bytes_0_and_2 :
    (data 1 17 0).byte0 = 0x11 ∧ (datagram 1 31).byte0 = 0x3F ∧ (ackFrom 3 7 0).byte0 = 0x47 ∧
      (notice .join 1).byte0 = 0x9F ∧ (data 1 2 0).byte2 = 0x50 ∧
      (Frame.mk (.notice .leave) 31 false 1 9 0 []).byte2 = 0x93 := by decide +kernel

/-- Section 1.5.1: bursts as a station checks them. -/
theorem test_received_bursts :
    heard (ackFrom 4 9 0x10).levels = .valid (ackFrom 4 9 0x10) ∧
      heard (levelsOf (List.replicate 5 0)) = .discarded .malformed ∧
      heard (datagram 31 9).levels = .discarded .malformed ∧
      heard [false, true, true, false, true] = .noFrame := by decide +kernel

/-- Section 1.5.1: an ACK whose length field is 1. -/
theorem test_ack_with_length_is_malformed :
    heard ({ ackFrom 4 9 0x10 with payload := [1] }).levels = .discarded .malformed := by decide +kernel

/-- Section 1.5.1: the largest frame has 71 characters; a burst of 72 is no frame. -/
theorem test_largest_frame :
    ({ datagram 2 31 with payload := List.replicate 64 7 }).bytes.length = 71 ∧
      ({ begun with bytes := List.replicate 71 0, count := 72 }).found = .discarded .malformed := by decide +kernel

/-- R3: a line held at space completes one character without its stop bit and forms no other. -/
theorem test_break_forms_one_character :
    (hearing active).line.hearAll (List.replicate 90 false) =
      ⟨false, .broken, 0, some ⟨false, false, [0], 1, true⟩⟩ ∧
    heard (List.replicate 90 false) = .discarded .framingErrors := by decide +kernel

/-- R4: in an idle gap of half a character inside a burst the line is idle, and the burst goes on (R5). -/
theorem test_idle_gap_inside_burst :
    let l := (hearing active).line.hearAll (charLevels 5 ++ List.replicate 10 true)
    l.idle = true ∧ l.over = false ∧ l.quiet = 10 ∧ l.burst = some ⟨false, false, [5], 1, false⟩ ∧
      (l.hearAll (charLevels 6)).burst = some ⟨false, false, [5, 6], 2, false⟩ := by decide +kernel

/-- R5: a start bit exactly 1 ct after a character belongs to the same burst; half a bit later the burst is over. -/
theorem test_burst_ends_after_one_ct :
    ((hearing active).line.hearAll (charLevels 5 ++ List.replicate 20 true)).over = false ∧
      ((hearing active).line.hearAll (charLevels 5 ++ List.replicate 21 true)).over = true := by decide +kernel

/-- R2: CONFIGURE with another rate code abandons the character being received; with the same one it does not. -/
theorem test_rate_change_abandons_character :
    let s := { State.reset with line := ⟨false, .receiving 7 0, 0, some begun⟩ }
    (after (.configure 7 4 10 10 20 24 8 15) s).line.receiver = .waiting ∧
      (after (.configure 4 4 10 10 20 24 8 15) s).line.receiver = .receiving 7 0 := by decide +kernel

/-- R60, R4: RESTART at the end of a transaction samples the straps and RXD at that instant. -/
theorem test_restart_samples_pins :
    let s := { inTransaction none active with line := ⟨false, .receiving 7 0, 0, some begun⟩ }
    let t := after (.transactionEnd (bitsOf 0x0F) 9 true) s
    t.station.address = 9 ∧ t.pins.straps = 9 ∧ t.line = ⟨true, .waiting, 0, some { begun with ignored := true }⟩ := by
  decide +kernel

/-- R19, R42: the rest of a burst that a reset with RXD at mark found under way is ignored after a JOIN; a burst that
begins after the JOIN is heard. -/
theorem test_reset_inside_burst_ignores_its_rest :
    let heardAfter := fun s : State =>
      after (.endOfFrame (notice .beacon 30).levels) (after .join (after (.pinReset 6 true) s))
    (heardAfter (hearing active)).counters = Counters.zero ∧
      ((heardAfter (hearing active)).peer 30).presence = .unknown ∧
      (heardAfter active).counters.framesHeard = 1 := by decide +kernel

/-- R146: the bits of an incomplete byte are dropped, and SDO has sent as many bits of its own byte. -/
theorem test_incomplete_byte_is_dropped :
    let t := after (.transactionEnd (bitsOf 0x01 ++ [true, true, true]) 6 true) (after .transactionStart active)
    t.link.reply.map Reply.echo = some 0x01 ∧ t.link.sdo.length = 11 := by decide +kernel

/-- R162: the status byte after pin reset, after RESTART, and in ACTIVE with a reply and ATTN. -/
theorem test_status_bytes :
    State.reset.statusByte = 0x00 ∧ (after (.restart 6 true) active).statusByte = 0x80 ∧
      (withReply (storing 1 active)).statusByte = 0xA2 := by decide +kernel

/-- R39: the derived values of the default record; R113: the retry waits of the default base. -/
theorem test_derived_values :
    ConfigRecord.default.presenceMs = 3000 ∧ ConfigRecord.default.holdMs = 200 ∧
      ConfigRecord.default.renewalMs = 100 ∧
      [1, 2, 3, 4, 14].map ConfigRecord.default.retryMs = [10, 20, 40, 80, 80] := by decide +kernel

/-- Table 2-2: the draw ranges. -/
theorem test_draw_ranges :
    [0, 1, 2, 3, 4, 5, 6, 15].map (fun n => 2 ^ drawBits n) = [4, 8, 16, 32, 64, 128, 256, 256] := by
  decide +kernel

/-- R43: from epoch 3, the fifteen values other than 3. -/
theorem test_epochs_avoid_previous :
    (List.range 15).map (epochOf (some 3)) = [0, 1, 2, 4, 5, 6, 7, 8, 9, 10, 11, 12, 13, 14, 15] := by
  decide +kernel

/-! ### The spec's worked sequences, step by step -/

/-- Section 10.6, transaction 1: the POST of three bytes to station 7. -/
theorem test_post_example :
    let t := after (clocked [0x10, 0x07, 0x00, 0x03, 0x01, 0x02, 0x03]) (after .transactionStart active)
    bytesOf t.link.sdo = [0x02, 0, 0, 0, 0, 0, 0] ∧ t.link.reply.map Reply.bytes = some [0x10, 0x00, 0x00, 0x01] ∧
      t.queue 7 = [0] := by decide +kernel

/-- Section 10.6, transaction 3: the FETCH reply is consumed and NOP takes nothing. -/
theorem test_nop_consumes_reply :
    let s := active.modLink fun l => { l with reply := some ⟨0x20, .empty, []⟩ }
    let t := after (clocked [0, 0, 0]) (after .transactionStart s)
    bytesOf t.link.sdo = [0x82, 0x20, 0x03] ∧ t.link.reply = none := by decide +kernel

/-- Section 9.7, transaction 1: STATUS after pin reset shows UNJOINED, 48 FREE slots, address 6, epoch 0. -/
theorem test_status_after_reset :
    (after .status State.reset).link.reply.map Reply.bytes =
      some [0x01, 0x00, 0, 0, 0, 0, 0, 0, 0, 48, 6, 0] := by decide +kernel

/-- Section 9.7, transaction 2: a JOIN in a transaction that leaves the reply unread is discarded. -/
theorem test_join_is_discarded :
    let t := after (clocked [0x03]) (after .transactionStart (withReply State.reset))
    t.link.discarded = true ∧ t.station.state = .unjoined := by decide +kernel

/-- Section 9.7, transaction 3: the status byte that showed DISCARDED clears it at byte 0. -/
theorem test_discarded_is_cleared :
    (after (.statusByteClocked 0) (inTransaction none active)).link.discarded = false := by decide +kernel

/-- Section 9.7, transactions 6 and 7: MALFORMED and UNKNOWN_REQUEST. -/
theorem test_malformed_and_unknown :
    (after (clocked [0x10, 0, 0]) (inTransaction none active)).link.reply.map Reply.bytes =
      some [0x10, 0x1E] ∧
    (after (clocked [0x55, 0, 0]) (inTransaction none active)).link.reply.map Reply.bytes =
      some [0x55, 0x1F] := by decide +kernel

/-- R59 and R153: a pin reset abandons the transaction; the bytes of its rest are zeros and take nothing. -/
theorem test_reset_abandons_transaction :
    let t := after (clocked [0x01, 0]) (after (.pinReset 6 true (bitsOf 0x01)) (inTransaction none active))
    bytesOf t.link.sdo = [0xC2, 0, 0] ∧ t.link.reply = none ∧ t.link.selLow = false := by decide +kernel

/-- R40: a resume level equal to the hold level is out of range. -/
theorem test_configure_bad_levels :
    (after (.configure 4 4 10 10 20 8 8 15) State.reset).link.reply.map Reply.bytes = some [0x02, 0x11] := by
  decide +kernel

/-- R40: a store of 9 records sets H under a hold level of 9. -/
theorem test_configure_sets_h :
    (after (.configure 7 15 255 50 255 9 8 0) (storing 9 State.reset)).inbound.h = true := by decide +kernel

/-- R42, R44: JOIN listens for the beacon interval. -/
theorem test_join_listens :
    let t := after .join State.reset
    t.station.state = .joining ∧ t.station.listen = .running 1000 ∧ t.access.state = .idle := by decide +kernel

/-- R42: the address 31. -/
theorem test_join_bad_address :
    (after .join (after (.pinReset 31 true) State.reset)).link.reply.map Reply.bytes = some [0x03, 0x12] := by
  decide +kernel

/-- Section 11.8, step 1 with empty queues (R51): the LEAVE notice is placed at once and contended for. -/
theorem test_leave_with_empty_queues :
    let t := after (.leave 0) active
    t.station.state = .leaving ∧ t.station.notices.leave = true ∧ t.access.state = .gap := by decide +kernel

/-- R54: LEAVE in JOINING with its notice on the line waits for the frame's end. -/
theorem test_leave_waits_for_join_notice :
    let t := after (.leave 1) (noticing .join .joining 0)
    t.station.state = .joining ∧ t.station.leavePending = true := by decide +kernel

/-- R80: a tag of 255 is followed by 1. -/
theorem test_post_tag_wraps :
    ((after (.post 7 1 0 []) (active.setSlot 0 ⟨255, none⟩)).slot 0).tag = 1 := by decide +kernel

/-- R86: an ACKED message to all. -/
theorem test_post_acked_broadcast :
    (after (.post 31 0 0 []) active).link.reply.map Reply.bytes = some [0x10, 0x16] := by decide +kernel

/-- Section 11.7: CANCEL in the window is answered PENDING and marks the message. -/
theorem test_cancel_in_window :
    let t := after (.cancel 47 1) (waiting none 1)
    t.link.reply.map Reply.bytes = some [0x11, 0x05] ∧ t.isMarked 47 = true := by decide +kernel

/-- R89: CANCEL of a DONE slot. -/
theorem test_cancel_done :
    (after (.cancel 0 1) owing).link.reply.map Reply.bytes = some [0x11, 0x06] := by decide +kernel

/-- R128, R164: a fetched broadcast datagram of two bytes. -/
theorem test_fetch_bytes :
    (after .fetch (storing 1 active)).link.reply.map Reply.bytes = some [0x20, 0x00, 2, 3, 2, 1, 2] := by
  decide +kernel

/-- R139: taking one of 16 outcomes moves the waiting one in and frees its slot. -/
theorem test_take_outcomes_frees_waiting :
    let t := after (.takeOutcomes 1) owing
    t.outcomes.waiting = [] ∧ t.outcomes.queue.length = 16 ∧ t.freeSlots = 48 ∧
      t.link.reply.map Reply.bytes = some [0x21, 0x00, 1, 5, 1, 2, 2, 1] := by decide +kernel

/-- R165: an initial record is thirteen bytes with data all zero. -/
theorem test_read_peer_initial :
    (after (.readPeer 30) active).link.reply.map Reply.bytes = some ([0x30, 0x00] ++ List.replicate 11 0) := by
  decide +kernel

/-- R165: a saturated counter is 0xFF 0xFF. -/
theorem test_read_counters_saturated :
    ((after (.readCounters 1) (active.modCounters fun c => { c with framesSent := 65535 })).link.reply.map
      Reply.bytes).map (List.take 4) = some [0x31, 0x00, 0xFF, 0xFF] := by decide +kernel

/-! ### Line events -/

/-- R24: activity in GAP. -/
theorem test_activity_takes_gap_to_defer :
    (after (.activityStart [false]) (inState .active .gap active)).access.state = .defer := by decide +kernel

/-- R24: a completed gap leads to DRAW. -/
theorem test_gap_leads_to_draw :
    (after .accessGapComplete (inState .active .gap active)).access.state = .draw := by decide +kernel

/-- R100: the LEAVE notice comes before the others. -/
theorem test_win_picks_leave_first :
    (after .lineWin ((inState .leaving .draw active).modStation fun st =>
      { st with notices := ⟨true, true, true, true⟩ })).engine.inFlight = .notice .leave := by decide +kernel

/-- R101: with last served 2, destination 1 is served after 31 and before 2. -/
theorem test_scan_wraps :
    ((holding 1 ⟨1, .acked, [], 0, none, .queued⟩ (holding 0 (message .acked .queued)
      (inState .active .draw active))).modEngine fun e => { e with lastServed := 2 }).scan = some 1 := by
  decide +kernel

/-- R103, R75: the first win of an ACKED message takes the next tx sequence, 255, which wraps to 0. -/
theorem test_win_takes_sequence :
    let s := (holding 0 ⟨2, .acked, [], 0, none, .queued⟩ (inState .active .draw active)).modPeer 2
      fun p => { p with nextTx := 255 }
    let t := after .lineWin s
    (t.slot 0).msg.map Message.seq = some (some 255) ∧ (t.peer 2).nextTx = 0 ∧ t.de = true := by decide +kernel

/-- R45: the completed JOIN notice. -/
theorem test_join_notice_completes :
    let t := after (.frameComplete (noticeSent .join).levels) (noticing .join .joining 3)
    t.station.state = .active ∧ t.station.stateChange = true ∧ t.attn = true ∧ t.access.n = 0 := by
  decide +kernel

/-- R107: the completed DATA frame. -/
theorem test_data_frame_opens_window :
    let t := after (.frameComplete (messageSent .acked).levels) (sending .acked none 0)
    t.access.state = .awaitReply ∧ (t.slot 47).msg.map Message.attempts = some 2 := by decide +kernel

/-- R28: a collision defers and counts. -/
theorem test_collision_defers :
    let t := after (.collision noise) (sending .acked none 3)
    t.access.state = .defer ∧ t.access.n = 4 ∧ t.counters.collisions = 1 ∧ t.isQueued 47 = true := by
  decide +kernel

/-- R29: the sixteenth collision. -/
theorem test_sixteenth_collision :
    let t := after (.collision noise) (noticing .beacon .active 15)
    t.station.state = .lineFault ∧ t.station.faultReason = .collisions ∧ t.access.state = .off := by
  decide +kernel

/-- R17: a readback that holds is no collision, and one that stops early is not complete. -/
theorem test_readback_decides :
    after (.collision (messageSent .acked).levels) (sending .acked none 0) = sending .acked none 0 ∧
      after (.frameComplete ((messageSent .acked).levels.take 140)) (sending .acked none 0) =
        sending .acked none 0 := by decide +kernel

/-- R33, R34: a reply is driven and completes without touching n. -/
theorem test_reply_is_sent :
    let s := (inState .active .gap active).modAccess fun a => { a with n := 2, reply := some (ackFrom 6 2 9) }
    let t := after .replyGap s
    let u := after (.replyComplete (ackFrom 6 2 9).levels) t
    t.access.state = .replying ∧ u.counters.framesSent = 1 ∧ u.access.n = 2 := by decide +kernel

/-- R34: a reply that collides is abandoned. -/
theorem test_reply_collides :
    let s := (inState .active .replying active).modAccess fun a => { a with frame := some (ackFrom 6 2 9) }
    (after (.replyCollision noise) s).access.state = .defer := by decide +kernel

/-- R111, R69: the fourth attempt without a reply. -/
theorem test_window_exhausts :
    let t := after .replyWindowTimeout (waiting none 4)
    t.outcomes.queue.map OutcomeRecord.result = [.noAck] ∧ (t.peer 2).presence = .silent := by decide +kernel

/-- R113: the second attempt without a reply waits 20 ms. -/
theorem test_window_retries :
    ((after .replyWindowTimeout (waiting none 2)).slot 47).msg.map Message.state = some (.retryWait 20) := by
  decide +kernel

/-- R36: a stuck line closes the window before the fault. -/
theorem test_stuck_line_closes_window :
    let t := after .stuckLine (waiting none 1)
    t.station.state = .lineFault ∧ t.engine.inFlight = .none ∧
      (t.slot 47).msg.map Message.state = some (.retryWait 10) := by decide +kernel

/-- R56: recovery. -/
theorem test_line_quiet_recovers :
    let t := after .lineQuiet ((inState .lineFault .off active).modAccess fun a => { a with recovery := true })
    t.station.state = .active ∧ t.station.notices.join = true ∧ t.access.state = .gap := by decide +kernel

/-- R31: the end of the own DATA burst leaves the window open; activity that joins it within 1 ct, exactly 1 ct
included, closes the window at its end of frame (section 2.11). -/
theorem test_joined_burst_closes_window :
    let s := afterOwnData (waiting none 1)
    let idle := after (.endOfFrame []) s
    let joined := after (.endOfFrame (List.replicate 20 true ++ [false])) s
    idle.access.state = .awaitReply ∧ idle.engine.inFlight = .message 47 ∧
      joined.access.state = .idle ∧ joined.engine.inFlight = .none ∧
      (joined.slot 47).msg.map Message.state = some (.retryWait 10) := by decide +kernel

/-- Section 11.6: a full store refuses, and the REFUSE carries H. -/
theorem test_full_store_refuses :
    let t := after (.endOfFrame (data 3 6 10).levels)
      (hearing ((storing 32 active).modInbound fun b => { b with h := true }))
    t.access.reply.map Frame.kind = some .refuse ∧ t.access.reply.map Frame.h = some true ∧
      t.counters.refusalsSent = 1 := by decide +kernel

/-- R119: the same sequence again is a duplicate. -/
theorem test_duplicate_is_acknowledged :
    let s := after (.endOfFrame (data 3 6 10).levels) (hearing active)
    let t := after (.endOfFrame (data 3 6 10).levels) (hearing s)
    t.inbound.records.length = 1 ∧ t.counters.duplicates = 1 ∧
      t.access.reply.map Frame.kind = some .ack := by decide +kernel

/-! ### Timers -/

/-- R44. -/
theorem test_join_listen_expiry :
    let t := after (.joinListenExpiry 1000) (after .join State.reset)
    t.station.notices.join = true ∧ t.access.state = .gap := by decide +kernel

/-- R49: a BEACON notice in ACTIVE. -/
theorem test_beacon_expiry : (after (.beaconTimerExpiry 1000) active).station.notices.beacon = true := by
  decide +kernel

/-- R50: a renewal falls due while H is 1. -/
theorem test_hold_renewal_expiry :
    (after (.holdRenewalExpiry 0) ((active.modInbound fun b => { b with h := true }).modStation fun st =>
      { st with lastSentH := true, renewal := .running 0 })).station.notices.hold = true := by decide +kernel

/-- R66, R68: a silent peer's waiting message. -/
theorem test_presence_timeout :
    let s := (holding 0 (message .acked .queued) active).modPeer 2
      fun p => { p with presence := .present, presenceTimer := .running 0 }
    let t := after (.presenceTimeout 2 0) s
    (t.peer 2).presence = .silent ∧ t.outcomes.queue.map OutcomeRecord.result = [.peerSilent] := by
  decide +kernel

/-- R71: a frame of the peer taken first restarts its timer, and the timeout of that instant silences nobody. -/
theorem test_frame_before_presence_timeout :
    let s := (hearing active).modPeer 2 fun p => { p with presence := .present, presenceTimer := .running 0 }
    let t := after (.presenceTimeout 2 0) (after (.endOfFrame (notice .beacon 2).levels) s)
    (t.peer 2).presence = .present ∧ (t.peer 2).presenceTimer = .running 3000 := by decide +kernel

/-- R74: a frame with H = 1 leaves the peer HELD on either side of its hold's lapse. -/
theorem test_hold_lapse_and_frame :
    let s := (hearing active).modPeer 2 fun p => { p with held := true, holdTimer := .running 0 }
    let frame := Instr.endOfFrame (notice .beacon 2).levels
    ((after (.holdTimerExpiry 2 0) (after frame s)).peer 2).held = true ∧
      ((after frame (after (.holdTimerExpiry 2 0) s)).peer 2).held = true := by decide +kernel

/-- R72: a hold lapses and the head becomes eligible. -/
theorem test_hold_timer_expiry :
    let s := (holding 0 (message .acked .queued) active).modPeer 2
      fun p => { p with held := true, holdTimer := .running 0 }
    (after (.holdTimerExpiry 2 0) s).access.state = .gap := by decide +kernel

/-- R113: the retry wait ends. -/
theorem test_retry_timer_expiry :
    (after (.retryTimerExpiry 0 0) (holding 0 (message .acked (.retryWait 0)) active)).isQueued 0 = true := by
  decide +kernel

/-- The tick takes a timer from 1 ms to 0 and queues its expiry. -/
theorem test_tick_queues_expiry :
    (active.modStation fun st => { st with beacon := .running 1 }).tick.pending = [.beaconTimerExpiry 0] := by
  decide +kernel

/-! ### Witnesses: states and operands that meet the hypotheses of the statements -/

theorem witness_EmptyQueueTicks : active.pending = [] := by decide

theorem witness_ResetsReturnEveryBlock :
    (inTransaction none active).link.txn = some (theTransaction none) ∧
    (let s := after (.pinReset 6 true) (inTransaction none active)
    s.link.txn = none ∧ s.link.selLow = true) ∧
    (∀ c ∈ [Instr.pinReset 6 true [], .restart 6 true], (after c (hearing active)).line.burst ≠ none) ∧
    exec .join (after (.pinReset 6 true) (hearing active)) =
      .next (after .join (after (.pinReset 6 true) (hearing active))) :=
  ⟨by decide +kernel, by decide +kernel, by decide +kernel, rfl⟩

theorem witness_StatusByteLayout :
    active.link.selLow = false ∧
    (let s := withReply (storing 1 active)
    s.station.state = .active ∧ s.link.reply.isSome = true ∧ s.attn = true ∧ s.link.discarded = false) := by
  decide +kernel

theorem witness_DiscardedFlag :
    (Instr.needsSlot .fetch = true ∧ (withReply active).link.reply.isSome = true) ∧
    ((inTransaction none active).link.txn = some (theTransaction none) ∧ (theTransaction none).sdi = []) ∧
    (bytesOf ((theTransaction none).sdi ++ List.replicate 7 true) = [] ∧
      (bytesOf ((theTransaction none).sdi ++ List.replicate 8 false)).head? = some Code.nop) ∧
    (let s := inTransaction (some ⟨0x01, .ok, [7]⟩) active
    s.link.txn = some (theTransaction (some ⟨0x01, .ok, [7]⟩)) ∧
      bytesOf ([Code.fetch, 0, 0].flatMap bitsOf) = [Code.fetch, 0, 0] ∧
      Code.fetch ≠ Code.nop ∧ Code.fetch ≠ Code.restart ∧
      (s.link.finish (theTransaction (some ⟨0x01, .ok, [7]⟩))
        ([Code.fetch, 0, 0].flatMap bitsOf)).reply.isSome = true) := by decide +kernel

theorem witness_TransactionEndSettlesReply :
    (inTransaction (some ⟨0x01, .ok, [7]⟩) active).link.txn =
      some (theTransaction (some ⟨0x01, .ok, [7]⟩)) ∧
    bytesOf (List.replicate 7 true) = [] ∧ (bytesOf (List.replicate 33 false)).head? = some 0x00 := by
  decide +kernel

theorem witness_TransactionCarriesRequest_post :
    (Instr.post 7 0 64 (List.replicate 64 1)).requestBytes =
      some (0x10 :: 7 :: 0 :: 64 :: List.replicate 64 1) ∧
    (inTransaction none active).link.txn = some (theTransaction none) ∧
    (64 : Byte).toNat ≤ (List.replicate 64 (1 : Byte)).length ∧ 64 < (65 : Byte).toNat ∧
    (theTransaction none).sdi ++ ([0x20, 0xFF].flatMap bitsOf ++ List.replicate 7 true) =
      ([0x20] ++ [0xFF]).flatMap (fun b : Byte => (List.range 8).map b.getMsbD) ++ List.replicate 7 true ∧
    (List.replicate 7 true).length < 8 := by decide +kernel

theorem witness_TransactionCarriesRequest_restart :
    (Instr.restart 9 false).requestBytes = some [0x0F] ∧
      (theTransaction none).sdi ++ bitsOf 0x0F =
        ([0x0F] ++ []).flatMap (fun b : Byte => (List.range 8).map b.getMsbD) ++ [] := by decide +kernel

theorem witness_UnknownAndMalformedRequests :
    let s := inTransaction none active
    s.link.txn = some (theTransaction none) ∧
      (s.link.finish (theTransaction none) (List.replicate 64 false)).reply = none ∧
      bytesOf ([0x05, 1, 2].flatMap bitsOf) = [0x05, 1, 2] ∧
      (0x05 : Byte) ∉ requestCodes ∧ Code.configure ∈ requestCodes ∧
      (List.replicate 7 (0 : Byte)).length < parametersNeeded Code.configure (List.replicate 7 0) ∧
      ([7, 0, 2, 9] : List Byte).length < parametersNeeded Code.post [7, 0, 2, 9] := by decide +kernel

theorem witness_StatusReportsAndClears :
    active.link.reply = none ∧ active.outcomes.queue = [] ∧ active.inbound.records = [] := by decide +kernel

theorem witness_ConfigureReplacesRecord :
    active.link.reply = none ∧ active.station.state ≠ .unjoined ∧ State.reset.link.reply = none ∧
      State.reset.station.state = .unjoined ∧ ¬ (8 : Byte).toNat ≤ 7 ∧
      ((7 : Byte).toNat ≤ 7 ∧ (1 : Byte).toNat = 1 ∧ (50 : Byte).toNat ≤ 50 ∧ (32 : Byte).toNat ≤ 32 ∧
        (31 : Byte).toNat < (32 : Byte).toNat ∧ (15 : Byte).toNat < 16) := by decide +kernel

theorem witness_JoinStartsListening :
    active.link.reply = none ∧ active.station.state ≠ .unjoined ∧
    (let s := after (.pinReset 31 true) active
    s.link.reply = none ∧ s.station.state = .unjoined ∧ s.station.address = 31) ∧
    (let s := after (.pinReset 30 true) active
    s.link.reply = none ∧ s.station.state = .unjoined ∧ s.station.address = 30 ∧
      s.station.notices = NoticeSet.empty) := by decide +kernel

theorem witness_LeaveDrains : active.link.reply = none ∧ active.station.state = .active := by decide +kernel

theorem witness_LeaveAbandons :
    (let s := holding 0 (message .acked .queued) active
    s.link.reply = none ∧ StoreConsistent s ∧ s.station.state = .active) ∧
    (let s := (inState .leaving .idle (holding 0 (message .acked .queued) active)).modStation fun st =>
      { st with leaveMode := some .drain }
    s.link.reply = none ∧ StoreConsistent s ∧ s.station.state = .leaving ∧
      s.station.leaveMode = some .drain) ∧
    (let s := waiting (some .cancelled) 1
    s.link.reply = none ∧ StoreConsistent s ∧ s.station.state = .active ∧
      LeavesMarked s (after (.leave 1) s) .abandoned 2 ∧ (after (.leave 1) s).queue 2 = [47]) := by decide +kernel

theorem witness_LeaveElsewhere :
    active.link.reply = none ∧ (2 : Byte) ≠ 0 ∧ (2 : Byte) ≠ 1 ∧ State.reset.station.state = .unjoined ∧
    ((noticing .join .joining 0).station.state = .joining ∧
      (noticing .join .joining 0).access.state = .sending) ∧
    ((inState .joining .gap active).station.state = .joining ∧
      (inState .joining .gap active).access.state ≠ .sending ∧
      (inState .joining .gap active).access.state ≠ .awaitReply) ∧
    (let s := inState .lineFault .off (holding 0 (message .acked .queued) active)
    s.station.state = .lineFault ∧ s.access.state = .off ∧ StoreConsistent s) ∧
    (inState .leaving .idle active).station.leaveMode ≠ some .drain := by decide +kernel

theorem witness_PostTakesLowestSlot :
    active.link.reply = none ∧ active.station.state = .active ∧
      1 ≤ (31 : Byte).toNat ∧ (31 : Byte).toNat ≤ 31 ∧ (31 : Byte).toNat ≠ active.station.address ∧
      (64 : Byte).toNat ≤ 64 ∧ (64 : Byte).toNat ≤ (List.replicate 64 (1 : Byte)).length ∧
      (1 : Byte).toNat ≤ 1 ∧ ¬ ((1 : Byte) = 0 ∧ (31 : Byte) = 31) ∧
      (active.peer 1).presence ≠ .silent ∧ (active.slot 0).msg = none ∧
      (∀ j < 0, (active.slot j).msg ≠ none) := by decide +kernel

/-- Every slot but the last holds a message. -/
def nearlyFull : State :=
  { active with outbound := { active.outbound with
    slots := (Vector.replicate 48 ⟨1, some (message .acked .queued)⟩).setIfInBounds 47 ⟨3, none⟩ } }

theorem witness_PostTakesLowestSlot_last :
    (nearlyFull.slot 47).msg = none ∧ (∀ j < 47, (nearlyFull.slot j).msg ≠ none) := by decide +kernel

theorem witness_PostChecksInOrder :
    active.link.reply = none ∧ State.reset.station.state ≠ .active ∧ active.station.state = .active ∧
      31 < (32 : Byte).toNat ∧ 64 < (65 : Byte).toNat ∧ 1 < (2 : Byte).toNat ∧
      ((active.modPeer 30 fun p => { p with presence := .silent }).peer 30).presence = .silent ∧
      (let s := nearlyFull.setSlot 47 ⟨3, some (message .acked .queued)⟩
      ∀ i < 48, (s.slot i).msg ≠ none) ∧ (active.slot 47).msg = none ∧ 31 ≠ active.station.address ∧
      (active.peer 30).presence ≠ .silent := by decide +kernel

theorem witness_CancelBySlotState :
    active.link.reply = none ∧ 48 ≤ (48 : Byte).toNat ∧
    (let m := message .datagram (.done .sent)
    (owing.slot 0).msg = some m ∧ (owing.slot 0).tag = (1 : Byte).toNat ∧ m.state = .done .sent) ∧
    (let s := sending .acked none 0
    (s.slot 47).msg = some (message .acked (.onLine none)) ∧ (s.slot 47).tag = (1 : Byte).toNat) ∧
    ((waiting (some .abandoned) 1).slot 47).msg = some (waitingMessage (some .abandoned) 1) ∧
    (let s := holding 47 (message .acked (.retryWait 3)) active
    (s.slot 47).msg = some (message .acked (.retryWait 3)) ∧ (s.slot 47).tag = (1 : Byte).toNat ∧
      StoreConsistent s ∧ s.link.reply = none) := by decide +kernel

theorem witness_FetchTakesOldest :
    active.link.reply = none ∧ active.inbound.records = [] ∧ (storing 9 active).link.reply = none ∧
      (storing 9 active).inbound.records =
        ⟨2, .datagram, true, [1, 2]⟩ :: List.replicate 8 ⟨2, .datagram, true, [1, 2]⟩ := by decide +kernel

theorem witness_TakeOutcomesInOrder :
    active.link.reply = none ∧ (0 : Byte).toNat < 1 ∧ 8 < (9 : Byte).toNat ∧ active.outcomes.queue = [] ∧
    (1 ≤ (8 : Byte).toNat ∧ (8 : Byte).toNat ≤ 8 ∧ owing.link.reply = none ∧ owing.outcomes.queue ≠ [] ∧
      StoreConsistent owing) := by decide +kernel

theorem witness_ReadPeerShowsRecord :
    active.link.reply = none ∧ 30 < (31 : Byte).toNat ∧ (6 : Byte).toNat = active.station.address ∧
      1 ≤ (30 : Byte).toNat ∧ (30 : Byte).toNat ≤ 30 ∧ (30 : Byte).toNat ≠ active.station.address := by
  decide +kernel

theorem witness_ReadCountersLosesNothing :
    active.link.reply = none ∧ 2 ≤ (2 : Byte).toNat ∧ (after (.readCounters 1) active).counters = Counters.zero ∧
      active.counters.value .collisions < 65535 ∧
      ({ Counters.zero with collisions := 65535 }).value .collisions = 65535 := by
  decide +kernel

theorem witness_ActivityDefers :
    ((hearing active).de = false ∧ (hearing active).line.burst = some begun ∧
      (hearing active).line.over = false) ∧
    (active.de = false ∧ active.line.burst = none) ∧
    (let s := { active with line := ⟨true, .waiting, 21, some { begun with own := true }⟩ }
    s.de = false ∧ s.line.over = true) ∧ (sending .acked none 0).de = true ∧
      State.reset.access.state = .off ∧ (inState .active .draw active).access.state = .draw ∧
      (waiting none 1).access.state = .awaitReply ∧
      active.access.state ∉ [.off, .gap, .draw, .awaitReply] := by decide +kernel

theorem witness_GapTakesDraw :
    active.access.state ≠ .gap ∧ (inState .active .gap active).access.state = .gap ∧
      (inState .active .gap active).lineIdle = true ∧ 255 < 2 ^ min (15 + 2) 8 := by decide +kernel

theorem witness_WinSendsNotice :
    active.access.state ≠ .draw ∧
    (let s := (inState .active .draw active).modStation fun st => { st with notices := ⟨false, true, false, false⟩ }
    s.access.state = .draw ∧ s.station.notices = ⟨false, true, false, false⟩) ∧
    (let s := inState .active .draw active
    s.access.state = .draw ∧ s.station.notices = NoticeSet.empty ∧
      ∀ d ∈ destinations, s.eligible d = false) := by decide +kernel

theorem witness_WinSendsNextHead :
    let m := message .acked .queued
    let s := holding 47 m (inState .active .draw active)
    s.access.state = .draw ∧ s.station.notices = NoticeSet.empty ∧ s.engine.lastServed ≤ 31 ∧
      2 ∈ destinations ∧ s.eligible 2 = true ∧
      (∀ e ∈ destinations, s.eligible e = true →
        (2 + 30 - s.engine.lastServed) % 31 ≤ (e + 30 - s.engine.lastServed) % 31) ∧
      s.queue 2 = [47] ∧ (s.slot 47).msg = some m ∧ m.dest = 2 := by decide +kernel

theorem witness_ReadbackFindsFirstFault :
    active.line.rxd = true ∧ active.line.receiver = .waiting ∧ (List.replicate 19 true).length < 20 ∧
      noise.length = 20 ∧ noise[0]? ≠ some false ∧
      (charLevels 0x47).length = 20 ∧ (charLevels 0x47)[0]? = some false ∧ (charLevels 0x47)[1]? = some false ∧
      (∀ j < 8, (charLevels 0x47)[2 * j + 3]? = some ((0x47 : Byte).getLsbD j)) ∧
      (charLevels 0x47)[19]? = some true := by decide +kernel

theorem witness_NoticeCompletes :
    (let s := noticing .join .joining 0
    Drives s .sending (noticeSent .join) ∧ s.engine.inFlight = .notice .join ∧
      (noticeSent .join).kind = .notice .join ∧
      ReadsBack s (noticeSent .join) (noticeSent .join).levels .complete ∧ s.line.receiver.busy = false ∧
      s.station.state = .joining ∧ s.station.leavePending = false) ∧
    (let s := noticing .leave .leaving 15
    Drives s .sending (noticeSent .leave) ∧ s.engine.inFlight = .notice .leave ∧
      (noticeSent .leave).kind = .notice .leave ∧ s.station.state = .leaving) := by decide +kernel

theorem witness_MessageFrameCompletes :
    (SendsMessage (sending .acked none 0) (messageSent .acked) 47 (message .acked (.onLine none)) ∧
      ReadsBack (sending .acked none 0) (messageSent .acked) (messageSent .acked).levels .complete) ∧
    (SendsMessage (sending .datagram none 0) (messageSent .datagram) 47 (message .datagram (.onLine none)) ∧
      StoreConsistent (sending .datagram none 0) ∧
      ReadsBack (sending .datagram none 0) (messageSent .datagram) (messageSent .datagram).levels .complete) := by
  decide +kernel

theorem witness_CollisionWithdrawsFrame :
    (Drives (noticing .hold .active 14) .sending (noticeSent .hold) ∧
      ReadsBack (noticing .hold .active 14) (noticeSent .hold) noise .failed ∧ (noticing .hold .active 14).access.n < 15 ∧
      (noticing .hold .active 14).engine.inFlight = .notice .hold) ∧
    SendsMessage (sending .acked none 14) (messageSent .acked) 47 (message .acked (.onLine none)) ∧
    (SendsMessage (sending .acked (some .cancelled) 14) (messageSent .acked) 47
        (message .acked (.onLine (some .cancelled))) ∧
      StoreConsistent (sending .acked (some .cancelled) 14)) ∧
    (let s := (noticing .join .joining 14).modStation fun st => { st with leavePending := true }
    Drives s .sending (noticeSent .join) ∧ ReadsBack s (noticeSent .join) noise .failed ∧ s.access.n < 15 ∧
      s.station.state = .joining ∧ s.station.leavePending = true ∧ s.engine.inFlight = .notice .join) := by
  decide +kernel

theorem witness_SixteenthCollisionFaults :
    Drives (noticing .beacon .active 15) .sending (noticeSent .beacon) ∧
      ReadsBack (noticing .beacon .active 15) (noticeSent .beacon) noise .failed ∧ (noticing .beacon .active 15).access.n = 15 ∧
      (noticing .beacon .active 15).station.state = .active ∧
      (noticing .join .joining 15).station.state = .joining ∧
      ((noticing .leave .leaving 15).station.state = .leaving ∧ StoreConsistent (noticing .leave .leaving 15) ∧
        (noticing .leave .leaving 15).engine.inFlight = .notice .leave) ∧
      (let s := (sending .acked none 15).modStation fun st => { st with state := .leaving }
      SendsMessage s (messageSent .acked) 47 (message .acked (.onLine none)) ∧ s.access.n = 15 ∧
        ReadsBack s (messageSent .acked) noise .failed ∧ StoreConsistent s) ∧
      (let s := (sending .acked (some .abandoned) 15).modStation fun st => { st with state := .leaving }
      SendsMessage s (messageSent .acked) 47 (message .acked (.onLine (some .abandoned))) ∧
        StoreConsistent s) := by decide +kernel

/-- Outside LEAVING: an unmarked message withdrawn, and a marked one. -/
theorem witness_SixteenthCollisionFaults_withdrawn :
    (let s := sending .datagram none 15
    SendsMessage s (messageSent .datagram) 47 (message .datagram (.onLine none)) ∧
      ReadsBack s (messageSent .datagram) noise .failed ∧ s.access.n = 15 ∧ s.station.state = .active) ∧
    (let s := sending .acked (some .cancelled) 15
    SendsMessage s (messageSent .acked) 47 (message .acked (.onLine (some .cancelled))) ∧
      ReadsBack s (messageSent .acked) noise .failed ∧ s.station.state = .active ∧ StoreConsistent s) := by
  decide +kernel

theorem witness_ReplyIsSentOnce :
    (let s := (inState .active .defer active).modAccess fun a => { a with reply := some (ackFrom 6 2 9) }
    s.access.reply = some (ackFrom 6 2 9) ∧ s.access.state ∈ [.idle, .defer, .gap, .draw]) ∧
    active.access.reply = none ∧
    (let s := (inState .active .replying active).modAccess fun a => { a with frame := some (ackFrom 6 2 9) }
    Drives s .replying (ackFrom 6 2 9) ∧
      ReadsBack s (ackFrom 6 2 9) (ackFrom 6 2 9).levels .complete ∧
      ReadsBack s (ackFrom 6 2 9) noise .failed) := by decide +kernel

theorem witness_WindowTimeoutSettles :
    active.access.state ≠ .awaitReply ∧
    (AwaitsReply (waiting (some .cancelled) 4) 47 (waitingMessage (some .cancelled) 4) (some .cancelled) ∧
      (waiting (some .cancelled) 4).access.occupied = false ∧
      StoreConsistent (waiting (some .cancelled) 4)) ∧
    (AwaitsReply (waiting none 4) 47 (waitingMessage none 4) none ∧
      (waitingMessage none 4).attempts = (waiting none 4).station.config.attemptLimit ∧
      StoreConsistent (waiting none 4) ∧ (waitingMessage none 4).dest ≤ 30) ∧
    (AwaitsReply (waiting none 3) 47 (waitingMessage none 3) none ∧
      (waitingMessage none 3).attempts ≠ (waiting none 3).station.config.attemptLimit) := by decide +kernel

theorem witness_StuckLineFaults :
    active.access.stuck = false ∧
    (let s := active.modAccess fun a => { a with stuck := true }
    s.access.stuck = true ∧ s.access.state ∉ [.off, .sending, .replying, .awaitReply] ∧
      s.station.state = .active) ∧
    (let s := (inState .leaving .defer active).modAccess fun a => { a with stuck := true }
    s.access.stuck = true ∧ s.access.state ∉ [.off, .sending, .replying, .awaitReply] ∧
      s.station.state = .leaving ∧ StoreConsistent s) ∧
    (AwaitsReply (waiting none 1) 47 (waitingMessage none 1) none ∧ (waiting none 1).access.stuck = true ∧
      (waiting none 1).station.state = .active ∧
      (waitingMessage none 1).attempts ≠ (waiting none 1).station.config.attemptLimit) ∧
    (AwaitsReply (waiting (some .cancelled) 1) 47 (waitingMessage (some .cancelled) 1) (some .cancelled) ∧
      StoreConsistent (waiting (some .cancelled) 1)) ∧
    (AwaitsReply (waiting none 4) 47 (waitingMessage none 4) none ∧
      (waitingMessage none 4).attempts = (waiting none 4).station.config.attemptLimit ∧
      StoreConsistent (waiting none 4) ∧ (waitingMessage none 4).dest ≤ 30) := by decide +kernel

theorem witness_StuckLineFaults_leaving :
    let leaving := fun s : State => s.modStation fun st => { st with state := .leaving }
    (AwaitsReply (leaving (waiting none 1)) 47 (waitingMessage none 1) none ∧
      (leaving (waiting none 1)).access.stuck = true ∧ StoreConsistent (leaving (waiting none 1)) ∧
      (waitingMessage none 1).attempts ≠ (leaving (waiting none 1)).station.config.attemptLimit) ∧
    (AwaitsReply (leaving (waiting (some .abandoned) 1)) 47 (waitingMessage (some .abandoned) 1)
        (some .abandoned) ∧ StoreConsistent (leaving (waiting (some .abandoned) 1))) ∧
    (AwaitsReply (leaving (waiting none 4)) 47 (waitingMessage none 4) none ∧
      (waitingMessage none 4).attempts = (leaving (waiting none 4)).station.config.attemptLimit ∧
      StoreConsistent (leaving (waiting none 4))) := by decide +kernel

theorem witness_QuietLineRecovers :
    active.station.state ≠ .lineFault ∧
    (let s := (inState .lineFault .off active).modAccess fun a => { a with recovery := true }
    s.station.state = .lineFault ∧ s.access.recovery = true ∧ s.lineIdle = true) := by decide +kernel

theorem witness_StationTimersPlaceNotices :
    (let s := after .join State.reset
    s.station.listen = .running 1000 ∧ s.station.state = .joining ∧ s.access.state = .idle) ∧
    (active.station.beacon = .running 1000 ∧ 1000 ≤ 1000 ∧ active.access.state = .idle ∧
      active.inService = true) ∧
    (active.modStation fun st => { st with renewal := .running 0 }).station.renewal = .running 0 ∧
    (∀ ms < 2000, active.station.beacon = .running ms → 999 < ms) ∧
    active.station.listen = .stopped ∧ active.station.renewal = .runOut := by decide +kernel

theorem witness_PresenceTimeoutSilences :
    (active.peer 1).presence ≠ .present ∧
    (let s := (holding 0 (message .acked .queued) active).modPeer 30
      fun p => { p with presence := .present, presenceTimer := .running 7 }
    (s.peer 30).presence = .present ∧ (s.peer 30).presenceTimer = .running 7 ∧ 7 ≤ 7 ∧ StoreConsistent s) ∧
    (HearsFrame (hearing active) (notice .beacon 30).levels (notice .beacon 30) ∧
      (notice .beacon 30).source ≠ (hearing active).station.address ∧
      (notice .beacon 30).kind ≠ .notice .leave ∧ 1 ≤ (hearing active).station.config.beacon) := by
  decide +kernel

theorem witness_HoldAndRetryLapse :
    (let s := active.modPeer 30 fun p => { p with held := true, holdTimer := .running 7 }
    (s.peer 30).held = true ∧ (s.peer 30).holdTimer = .running 7) ∧
    (let s := holding 47 (message .acked (.retryWait 5)) active
    (s.slot 47).msg = some (message .acked (.retryWait 5))) ∧ (active.peer 1).held = false ∧
    (HearsFrame (hearing active) (notice .hold 30).levels (notice .hold 30) ∧
      (notice .hold 30).source ≠ (hearing active).station.address ∧ (notice .hold 30).kind ≠ .notice .leave ∧
      (notice .hold 30).h = true ∧ 1 ≤ (hearing active).station.config.holdTime) := by decide +kernel

theorem witness_FramesSurviveTheLine :
    ({ data 30 0 255 with payload := List.replicate 64 1 }).wellFormed = true ∧
      active.line.rxd = true ∧ active.line.receiver = .waiting ∧ active.line.over = false ∧ active.de = false ∧
      Drives (sending .acked none 0) .sending (messageSent .acked) ∧
      (let b : Burst := ⟨false, false, (ackFrom 30 1 255).bytes, 7, false⟩
      b.found = .valid (ackFrom 30 1 255) ∧ b.bytes.length = min b.count 71) ∧
      (∀ j < 8, (charLevels 0x47)[2 * j + 3]? = some ((0x47 : Byte).getLsbD j)) ∧
      (let l : Line := ⟨false, .broken, 0, none⟩
      l.receiver = .broken ∧ l.over = false) := by decide +kernel

/-- No frame's first character has kind 7 (Table 10-1). -/
theorem kind_7_is_no_frame (f : Frame) (rest : List Byte) : (0xE0 : Byte) :: rest ≠ f.bytes := by
  intro h
  have byte0 : (0xE0 : Byte) = f.byte0 := (List.cons.inj h).1
  have bit7 := congrArg (fun b => b.getLsbD 7) byte0
  have bit6 := congrArg (fun b => b.getLsbD 6) byte0
  simp only [Frame.byte0, BitVec.getLsbD_append] at bit6 bit7
  cases hk : f.kind <;> simp [hk, FrameKind.code] at bit6 bit7

/-- R12 at its boundaries: 6, 7 and 72 characters, a wrong CRC, and a right CRC over the kind 7. -/
theorem witness_FramesSurviveTheLine_judged :
    (Burst.mk false false (List.replicate 6 1) 6 false).found = .discarded .malformed ∧
    (Burst.mk false false (List.replicate 7 1) 7 false).found = .discarded .crcErrors ∧
    (Burst.mk false false (List.replicate 71 1) 72 false).found = .discarded .malformed ∧
    (Burst.mk false false [1] 1 true).found = .discarded .framingErrors ∧
    (let body : List Byte := [0xE0, 1, 0, 0, 0]
    (∀ f : Frame, f.wellFormed = true → body ++ crcBytes body ≠ f.bytes) ∧
      (Burst.mk false false (body ++ crcBytes body) 7 false).found = .discarded .malformed) :=
  ⟨by decide, by decide +kernel, by decide, by decide, fun f _ => kind_7_is_no_frame f _, by decide +kernel⟩

theorem witness_HeardFrameUpdatesPeer :
    (HearsFrame (hearing active) (notice .hold 30).levels (notice .hold 30) ∧
      (notice .hold 30).source ≠ (hearing active).station.address ∧
      (hearing active).access.state ≠ .awaitReply) ∧
    HearsFrame (hearing active) (data 30 0 255).levels (data 30 0 255) ∧
    HearsFrame (hearing active) (datagram 1 30).levels (datagram 1 30) ∧
    (HearsFrame (hearing (inState .lineFault .off active)) (data 2 6 0).levels (data 2 6 0) ∧
      (hearing (inState .lineFault .off active)).station.state ∈ [.joining, .lineFault]) ∧
    HearsFrame (hearing active) (ackFrom 2 6 0).levels (ackFrom 2 6 0) := by decide +kernel

theorem witness_LeaveNoticeDeparts :
    HearsFrame (hearing active) (notice .leave 30).levels (notice .leave 30) ∧
      (notice .leave 30).source ≠ (hearing active).station.address ∧
      (hearing active).access.state ≠ .awaitReply ∧ StoreConsistent (hearing active) := by decide +kernel

theorem witness_DataFrameDecision :
    (let s := hearing (storing 32 active)
    HearsFrame s (data 30 6 0).levels (data 30 6 0) ∧ (data 30 6 0).source ≠ s.station.address ∧
      (data 30 6 0).dest = s.station.address ∧ s.station.state = .active ∧ s.access.state ≠ .off ∧
      s.access.state ≠ .awaitReply ∧ 32 ≤ s.inbound.records.length) ∧
    (let s := (hearing (storing 31 active)).modPeer 30
      fun p => { p with epoch := some 5, lastAccepted := some 0 }
    HearsFrame s (data 30 6 0).levels (data 30 6 0) ∧ s.inbound.records.length < 32 ∧
      (s.peer 30).epoch = some (data 30 6 0).epoch ∧ (s.peer 30).lastAccepted = some (data 30 6 0).seq) ∧
    (let s := hearing (storing 31 active)
    HearsFrame s (data 30 6 0).levels (data 30 6 0) ∧ s.inbound.records.length < 32 ∧
      (s.peer 30).epoch ≠ some (data 30 6 0).epoch) ∧
    (let s := hearing (waiting none 1)
    HearsFrame s (data 2 6 9).levels (data 2 6 9) ∧ (data 2 6 9).source ≠ s.station.address ∧
      (data 2 6 9).dest = s.station.address ∧ s.station.state = .active ∧
      s.access.state = .awaitReply) := by decide +kernel

theorem witness_DatagramAcceptance :
    (let s := hearing (storing 31 active)
    HearsFrame s (datagram 1 31).levels (datagram 1 31) ∧ (datagram 1 31).source ≠ s.station.address ∧
      s.station.state = .active ∧ s.access.state ≠ .awaitReply ∧ s.inbound.records.length < 32) ∧
    (let s := hearing (storing 32 (inState .leaving .idle active))
    HearsFrame s (datagram 30 6).levels (datagram 30 6) ∧ (datagram 30 6).dest = s.station.address ∧
      s.station.state = .leaving ∧ 32 ≤ s.inbound.records.length) := by decide +kernel

theorem witness_AddressConflict :
    (let s := hearing (inState .joining .idle active)
    HearsFrame s (notice .beacon 6).levels (notice .beacon 6) ∧ (notice .beacon 6).source = s.station.address ∧
      s.access.state ≠ .awaitReply ∧ s.station.state = .joining) ∧
    (let s := hearing active
    HearsFrame s (data 6 6 0).levels (data 6 6 0) ∧ (data 6 6 0).source = s.station.address ∧
      s.access.state ≠ .awaitReply ∧ s.station.state ≠ .joining) := by decide +kernel

theorem witness_MatchingReplySettles :
    (let s := (hearing (waiting (some .peerSilent) 1)).modAccess fun a => { a with occupied := true }
    let m := waitingMessage (some .peerSilent) 1
    HearsFrame s (ackFrom 2 6 9).levels (ackFrom 2 6 9) ∧ AwaitsReply s 47 m (some .peerSilent) ∧
      s.access.occupied = true ∧ StoreConsistent s ∧ (ackFrom 2 6 9).dest = s.station.address ∧
      (ackFrom 2 6 9).source ≠ s.station.address ∧ (ackFrom 2 6 9).source = m.dest ∧
      m.seq = some (ackFrom 2 6 9).seq) ∧
    (let s := (hearing (waiting none 1)).modAccess fun a => { a with occupied := true }
    HearsFrame s (refuseFrom 2 6 9).levels (refuseFrom 2 6 9) ∧ AwaitsReply s 47 (waitingMessage none 1) none ∧
      s.access.occupied = true ∧ StoreConsistent s) := by decide +kernel

theorem witness_DiscardedBurstsCountOnce :
    (let s := hearing active
    s.de = false ∧ s.line.burst = some begun ∧ s.access.state ≠ .awaitReply ∧ s.hears begun = true ∧
      s.found (charLevels 0) = .discarded .malformed ∧ s.found [false, true] = .noFrame) ∧
    active.hears { begun with own := true } = false ∧
    (let t := (hearing (waiting none 3)).modAccess fun a => { a with occupied := true }
    AwaitsReply t 47 (waitingMessage none 3) none ∧ t.access.occupied = true ∧ t.de = false ∧
      t.line.burst = some begun ∧ t.hears begun = true ∧ t.found (charLevels 0) = .discarded .malformed ∧
      (waitingMessage none 3).attempts ≠ t.station.config.attemptLimit) ∧
    (let t := (hearing (waiting (some .cancelled) 4)).modAccess fun a => { a with occupied := true }
    AwaitsReply t 47 (waitingMessage (some .cancelled) 4) (some .cancelled) ∧ StoreConsistent t) ∧
    (let t := (hearing (waiting none 4)).modAccess fun a => { a with occupied := true }
    AwaitsReply t 47 (waitingMessage none 4) none ∧ StoreConsistent t ∧
      (waitingMessage none 4).attempts = t.station.config.attemptLimit) := by decide +kernel

/-- A valid frame that is not the reply ends an occupied window: an ACK with another sequence, and the LEAVE notice
of the message's destination. -/
theorem witness_DiscardedBurstsCountOnce_routed :
    let s := (hearing (waiting none 1)).modAccess fun a => { a with occupied := true }
    AwaitsReply s 47 (waitingMessage none 1) none ∧ s.access.occupied = true ∧ StoreConsistent s ∧
      s.station.state ≠ .joining ∧
      (HearsFrame s (ackFrom 2 6 8).levels (ackFrom 2 6 8) ∧
        (waitingMessage none 1).seq ≠ some (ackFrom 2 6 8).seq) ∧
      (HearsFrame s (notice .leave 2).levels (notice .leave 2) ∧
        (notice .leave 2).kind = .notice .leave ∧ (notice .leave 2).source = (waitingMessage none 1).dest) := by
  decide +kernel

/-- The own DATA burst alone, and a burst that joins it after exactly 1 ct. -/
theorem witness_DiscardedBurstsCountOnce_own :
    let s := afterOwnData (waiting none 3)
    let own := { begun with own := true }
    s.de = false ∧ s.line.burst = some own ∧ s.access.state = .awaitReply ∧ s.hears own = false ∧
      ¬ WindowOccupied s [] ∧ ¬ WindowOccupied s (List.replicate 21 true ++ [false]) ∧
      WindowOccupied s (List.replicate 20 true ++ [false]) ∧
      AwaitsReply s 47 (waitingMessage none 3) none := by
  decide +kernel

theorem witness_ResolutionHandsOutcome :
    (let s := holding 47 (message .acked .queued) active
    StoreConsistent s ∧ (s.slot 47).msg = some (message .acked .queued) ∧ s.outcomes.queue.length < 16) ∧
    (let s := holding 47 (message .acked .queued) owing
    StoreConsistent s ∧ (s.slot 47).msg = some (message .acked .queued) ∧
      s.outcomes.queue.length = 16) := by decide +kernel

theorem witness_PoolAddsUp : StoreConsistent (holding 47 (message .acked .queued) owing) := by decide +kernel

/-- Reset meets every invariant, and so does a station in service with a message in its reply window. -/
theorem witness_invariants :
    let s := waiting none 1
    HoldNoticeExact s ∧ IdleWantsNothing s ∧ LeaveNoticePlaced s ∧ AccessFollowsStation s ∧
      HoldFollowsFill s := by decide +kernel

theorem witness_invariants_of_the_store :
    let s := waiting none 1
    StoreConsistent s ∧ InFlightConsistent s ∧ CountsBounded s ∧ (hearing s).line.burst = some begun ∧
      begun.bytes.length = min begun.count 71 := by decide +kernel

theorem witness_invariants_of_the_peers :
    let s := waiting none 1
    TimersGoverned s ∧ OwnRecordInitial s ∧ SilentQueueMarked s := by decide +kernel

end Sys2Proof.Tests
end

/-! SUPPORT. Frames of commands: which blocks stand, change by change and together. -/

section
namespace Sys2Proof.Machine

/-! ### Changes in a row -/

theorem Block.Same.trans {s t u : State} {b : Block} (h : b.Same s t) (k : b.Same t u) : b.Same s u := by
  cases b <;> exact Eq.trans k h

theorem UnchangedBut.refl (changed : List Block) (s : State) : UnchangedBut changed s s := by
  intro b _
  cases b <;> rfl

theorem UnchangedBut.mono {changed more : List Block} {s t : State} (h : UnchangedBut changed s t)
    (sub : changed ⊆ more) : UnchangedBut more s t :=
  fun b hb => h b fun hc => hb (sub hc)

theorem UnchangedBut.trans {changed : List Block} {s t u : State} (h : UnchangedBut changed s t)
    (k : UnchangedBut changed t u) : UnchangedBut changed s u :=
  fun b hb => (h b hb).trans (k b hb)

/-- Two changes in a row, each with its own blocks. -/
theorem UnchangedBut.append {changed more : List Block} {s t u : State} (h : UnchangedBut changed s t)
    (k : UnchangedBut more t u) : UnchangedBut (changed ++ more) s u :=
  (h.mono (List.subset_append_left _ _)).trans (k.mono (List.subset_append_right _ _))

/-! ### Changes of one block -/

theorem State.modLine_unchanged (s : State) (f : Line → Line) :
    UnchangedBut [.line] s (s.modLine f) :=
  fun b hb => by cases b <;> simp_all [Block.Same]

theorem State.modAccess_unchanged (s : State) (f : Access → Access) :
    UnchangedBut [.access] s (s.modAccess f) :=
  fun b hb => by cases b <;> simp_all [Block.Same]

theorem State.modPeers_unchanged (s : State) (f : Vector PeerRecord 30 → Vector PeerRecord 30) :
    UnchangedBut [.peers] s (s.modPeers f) :=
  fun b hb => by cases b <;> simp_all [Block.Same]

theorem State.modPeer_unchanged (s : State) (a : Nat) (f : PeerRecord → PeerRecord) :
    UnchangedBut [.peers] s (s.modPeer a f) := by
  unfold State.modPeer
  split
  exacts [.refl _ s, s.modPeers_unchanged _]

theorem State.modStation_unchanged (s : State) (f : Station → Station) :
    UnchangedBut [.station] s (s.modStation f) :=
  fun b hb => by cases b <;> simp_all [Block.Same]

theorem State.modCounters_unchanged (s : State) (f : Counters → Counters) :
    UnchangedBut [.counters] s (s.modCounters f) :=
  fun b hb => by cases b <;> simp_all [Block.Same]

theorem State.count_unchanged (s : State) (k : CounterName) : UnchangedBut [.counters] s (s.count k) :=
  s.modCounters_unchanged _

theorem State.modOutbound_unchanged (s : State) (f : Outbound → Outbound) :
    UnchangedBut [.outbound] s (s.modOutbound f) :=
  fun b hb => by cases b <;> simp_all [Block.Same]

theorem State.modMessage_unchanged (s : State) (i : Nat) (f : Message → Message) :
    UnchangedBut [.outbound] s (s.modMessage i f) := by
  unfold State.modMessage
  split
  exacts [.refl _ s, s.modOutbound_unchanged _]

theorem State.modEngine_unchanged (s : State) (f : Engine → Engine) :
    UnchangedBut [.engine] s (s.modEngine f) :=
  fun b hb => by cases b <;> simp_all [Block.Same]

end Sys2Proof.Machine
end

/-! SUPPORT. The start of activity (R4, R5): which burst is under way afterwards, and what the levels since leave of
it. -/

section
namespace Sys2Proof.Machine

/-- Hearing levels leaves what the burst is: own, or ignored. -/
theorem Line.hearAll_class (l : Line) (rxd : Levels) :
    (l.hearAll rxd).burst.map (fun b => (b.own, b.ignored)) = l.burst.map fun b => (b.own, b.ignored) :=
  l.hearAll_keeps (fun l' => l'.burst.map (fun b => (b.own, b.ignored)) = l.burst.map fun b => (b.own, b.ignored))
    (fun l' mark h => (l'.hear_class mark).trans h) rxd rfl

theorem Line.hearAll_own (l : Line) (rxd : Levels) :
    (l.hearAll rxd).burst.map Burst.own = l.burst.map Burst.own := by
  simpa [Option.map_map, Function.comp_def] using congrArg (Option.map Prod.fst) (l.hearAll_class rxd)

theorem Line.hearAll_ignored (l : Line) (rxd : Levels) :
    (l.hearAll rxd).burst.map Burst.ignored = l.burst.map Burst.ignored := by
  simpa [Option.map_map, Function.comp_def] using congrArg (Option.map Prod.snd) (l.hearAll_class rxd)

/-- The levels an ACTIVITY_START stands for: with none given, an idle line falls to space (notes/assumptions 8). -/
def Line.startLevels (l : Line) (rxd : Levels) : Levels := if rxd = [] ∧ l.idle = true then [false] else rxd

/-- A burst under way that has not ended goes on (R5). -/
theorem Line.begin_of_burst {l : Line} (hb : l.burst.isSome = true) (ho : l.over = false) (b : Burst) (rxd : Levels) :
    l.begin b rxd = l.hearAll (l.startLevels rxd) := by
  simp [Line.begin, Line.startLevels, hb, ho]

/-- With no burst under way, or one that has ended, the new one begins (R5, notes/assumptions 21). -/
theorem Line.begin_of_no_burst {l : Line} (h : l.burst = none ∨ l.over = true) (b : Burst) (rxd : Levels) :
    l.begin b rxd = Line.hearAll { l with quiet := 0, burst := some b } (l.startLevels rxd) := by
  rcases h with h | h <;> simp [Line.begin, Line.startLevels, h]

/-- A burst that begins has no idle behind it. -/
theorem Line.fresh_not_over (l : Line) (b : Burst) : Line.over { l with quiet := 0, burst := some b } = false := by
  simp [Line.over]

/-- RXD's fall to space on a line that is not over is activity, and completes no character (R3, R4). -/
theorem Line.hearAll_start {l : Line} (ho : l.over = false) :
    (l.hearAll (l.startLevels [])).idle = false ∧ (l.hearAll (l.startLevels [])).burst = l.burst := by
  by_cases hi : l.idle = true
  · have start : l.hearAll (l.startLevels []) = l.hear false := by
      simp [Line.startLevels, Line.hearAll, hi, ho]
    have notBusy : l.receiver.completes false = none := by
      cases hr : l.receiver with
      | receiving cells byte => simp [Line.idle, Receiver.busy, hr] at hi
      | waiting => rfl
      | broken => rfl
    rw [start]
    exact ⟨l.hear_space, by simp [Line.hear, notBusy]⟩
  · have start : l.hearAll (l.startLevels []) = l := by simp [Line.startLevels, hi]
    rw [start]
    exact ⟨by simpa using hi, rfl⟩

/-- The two cases of a start of activity: a burst under way goes on, or a new one begins (R5). -/
theorem Line.underWay_or_ended (l : Line) :
    (l.burst.isSome = true ∧ l.over = false) ∨ (l.burst = none ∨ l.over = true) := by
  cases l.burst <;> simp

/-- With no levels given, a start of activity leaves the line active (R4). -/
theorem Line.begin_nil_idle (l : Line) (b : Burst) : (l.begin b []).idle = false := by
  rcases l.underWay_or_ended with ⟨hb, ho⟩ | ended
  · rw [Line.begin_of_burst hb ho]
    exact (Line.hearAll_start ho).1
  · rw [Line.begin_of_no_burst ended]
    exact (Line.hearAll_start (Line.fresh_not_over l b)).1

/-- After the start of activity a burst is under way (R5). -/
theorem Line.begin_burst_isSome (l : Line) (b : Burst) (rxd : Levels) : (l.begin b rxd).burst.isSome = true := by
  rw [← Option.isSome_map (f := Burst.own)]
  rcases l.underWay_or_ended with ⟨hb, ho⟩ | ended
  · rw [Line.begin_of_burst hb ho, Line.hearAll_own, Option.isSome_map, hb]
  · rw [Line.begin_of_no_burst ended, Line.hearAll_own]
    rfl

/-! ### ACTIVITY_START -/

theorem exec_activityStart (rxd : Levels) (s : State) : exec (.activityStart rxd) s = .next (s.beginActivity rxd) := rfl

theorem exec_endOfFrame (rxd : Levels) (s : State) : exec (.endOfFrame rxd) s = execEndOfFrame rxd s := rfl

/-- The burst that ACTIVITY_START begins: not own, and ignored exactly in UNJOINED (R6, R18). -/
def State.newBurst (s : State) : Burst := ⟨false, s.station.state = .unjoined, [], 0, false⟩

/-- While the station drives the line stands (notes/assumptions 9). -/
theorem State.beginActivity_line_driving {s : State} (rxd : Levels) (h : s.de = true) :
    (s.beginActivity rxd).line = s.line := if_pos h

theorem State.beginActivity_line {s : State} (rxd : Levels) (h : s.de = false) :
    (s.beginActivity rxd).line = s.line.begin s.newBurst rxd := if_neg (by simp [h])

theorem State.beginActivity_unchanged (s : State) (rxd : Levels) :
    UnchangedBut [.line, .access] s (s.beginActivity rxd) :=
  (s.modLine_unchanged _).append (State.modAccess_unchanged _ _)

/-- Activity does not make the station drive. -/
theorem State.beginActivity_de {s : State} (rxd : Levels) (h : s.de = false) : (s.beginActivity rxd).de = false := by
  unfold State.beginActivity State.de at *
  cases hs : s.access.state <;> simp_all

/-- After the start of activity a burst is under way. -/
theorem State.beginActivity_burst {s : State} (rxd : Levels) (h : s.de = false) :
    (s.beginActivity rxd).line.burst.isSome = true := by
  rw [State.beginActivity_line rxd h]
  exact s.line.begin_burst_isSome _ _

/-- Settles O24: the line by whether a burst is under way, the access controller by its state. -/
theorem activityDefers : Obligations.ActivityDefers := by
  unfold Obligations.ActivityDefers
  refine ⟨fun rxd s => ⟨_, exec_activityStart rxd s, s.beginActivity_unchanged rxd, ?_, ?_, ?_, ?_, ?_, ?_, ?_, ?_⟩,
    fun rxd s hde hb => ⟨_, exec_activityStart rxd s, s.beginActivity_de rxd hde, ?_, ?_⟩⟩
  · exact s.beginActivity_line_driving rxd
  · rintro hde rfl
    rw [State.lineIdle, State.beginActivity_line [] hde]
    exact s.line.begin_nil_idle _
  · intro b hde hb ho
    have line : (s.beginActivity rxd).line = s.line.hearAll (s.line.startLevels rxd) := by
      rw [State.beginActivity_line rxd hde, Line.begin_of_burst (by simp [hb]) ho]
    refine ⟨line, ?_, ?_, ?_⟩
    · rintro rfl
      rw [line, (Line.hearAll_start ho).2, hb]
    · rw [line, Line.hearAll_own, hb, Option.map_some]
    · rw [line, Line.hearAll_ignored, hb, Option.map_some]
  · intro hde ended
    have line : (s.beginActivity rxd).line =
        Line.hearAll { s.line with quiet := 0, burst := some s.newBurst } (s.line.startLevels rxd) := by
      rw [State.beginActivity_line rxd hde, Line.begin_of_no_burst ended]
    refine ⟨line, ?_, ?_, ?_⟩
    · rintro rfl
      rw [line]
      exact (Line.hearAll_start (s.line.fresh_not_over s.newBurst)).2
    · rw [line, Line.hearAll_own]
      rfl
    · rw [line, Line.hearAll_ignored]
      rfl
  · intro h
    simp [State.beginActivity, h]
  · rintro (h | h) <;> simp [State.beginActivity, h]
  · intro h
    simp [State.beginActivity, h]
  · intro h
    cases hs : s.access.state <;> simp_all [State.beginActivity]
  · exact s.beginActivity_burst rxd hde
  · rw [exec_endOfFrame, exec_endOfFrame, execEndOfFrame, execEndOfFrame, if_neg (by simp [hde]),
      if_neg (by simp [hb]), if_neg (by simp [s.beginActivity_de rxd hde]), if_pos (s.beginActivity_burst rxd hde)]

end Sys2Proof.Machine
end

/-! SUPPORT. Readback (R17): what one character time of RXD completes, from a line at mark whose receiver waits. -/

section
namespace Sys2Proof.Machine

/-! ### One character time -/

/-- How many half bit times of a character or a candidate start bit have passed (R3). -/
def Receiver.passed : Receiver → Nat
  | .receiving cells _ => cells
  | _ => 0

theorem Receiver.passed_next (r : Receiver) (rxd mark : Bool) : (r.next rxd mark).passed ≤ r.passed + 1 := by
  cases r with
  | waiting => cases rxd <;> cases mark <;> simp [Receiver.next, Receiver.passed]
  | broken => cases mark <;> simp [Receiver.next, Receiver.passed]
  | receiving cells byte =>
    simp only [Receiver.next]
    split_ifs <;> simp [Receiver.passed]
    omega

/-- A character completes with its twentieth half bit time, no sooner (R3). -/
theorem Receiver.completes_none {r : Receiver} (h : r.passed < 19) (mark : Bool) : r.completes mark = none := by
  cases r with
  | waiting => rfl
  | broken => rfl
  | receiving cells byte =>
    have early : cells < 19 := h
    exact if_neg (show ¬ 20 ≤ cells + 1 by omega)

/-- A half bit time of a readback, with the character completed last. -/
def hearNext (p : Line × Option RxChar) (mark : Bool) : Line × Option RxChar :=
  (p.1.hear mark, (p.1.receiver.completes mark).or p.2)

theorem Line.hearChar_eq (l : Line) (rxd : Levels) : l.hearChar rxd = rxd.foldl hearNext (l, none) := rfl

/-- Too few half bit times complete no character. -/
theorem hearNext_early (rxd : Levels) {p : Line × Option RxChar} (h : p.1.receiver.passed + rxd.length ≤ 19)
    (hn : p.2 = none) : (rxd.foldl hearNext p).2 = none := by
  induction rxd generalizing p with
  | nil => exact hn
  | cons mark rest ih =>
    rw [List.length_cons] at h
    have next := p.1.receiver.passed_next p.1.rxd mark
    refine ih (p := hearNext p mark) ?_ ?_
    · show (p.1.receiver.next p.1.rxd mark).passed + rest.length ≤ 19
      omega
    · show (p.1.receiver.completes mark).or p.2 = none
      rw [Receiver.completes_none (by omega), hn]
      rfl

/-- The line is at mark and its receiver waits: where every character time of a readback begins (R1, R3). -/
def Line.AtMark (l : Line) : Prop := l.rxd = true ∧ l.receiver = .waiting

/-- Where the middle of data bit `j` is (R3). -/
def sampleAt (j : Fin 8) : Fin 20 := ⟨2 * j + 3, by omega⟩

/-- The byte that the samples of a character time give, the first one in the least significant place (R3). -/
def sampledByte (cells : Fin 20 → Bool) : Byte :=
  [cells 3, cells 5, cells 7, cells 9, cells 11, cells 13, cells 15, cells 17].foldl shiftIn 0

theorem shiftIn_getLsbD (byte : Byte) (bit : Bool) (j : Nat) :
    (shiftIn byte bit).getLsbD j = if j < 7 then byte.getLsbD (j + 1) else (bit && j == 7) := by
  have parts : (shiftIn byte bit).getLsbD j =
      if j < 7 then (byte.extractLsb' 1 7).getLsbD j else (BitVec.ofBool bit).getLsbD (j - 7) :=
    BitVec.getLsbD_append
  rw [parts]
  split
  · next h => simp [h, Nat.add_comm]
  · next h =>
    rw [BitVec.getLsbD_ofBool]
    grind

theorem sampledByte_getLsbD (cells : Fin 20 → Bool) (j : Fin 8) :
    (sampledByte cells).getLsbD j = cells (sampleAt j) := by
  simp only [sampledByte, List.foldl, shiftIn_getLsbD]
  fin_cases j <;> simp [sampleAt]

theorem sampledByte_eq_iff (cells : Fin 20 → Bool) (b : Byte) :
    sampledByte cells = b ↔ ∀ j : Fin 8, cells (sampleAt j) = b.getLsbD j := by
  constructor
  · rintro rfl j
    exact (sampledByte_getLsbD cells j).symm
  · intro h
    refine BitVec.eq_of_getLsbD_eq fun j hj => ?_
    exact (sampledByte_getLsbD cells ⟨j, hj⟩).trans (h ⟨j, hj⟩)

/-- After a start bit the character time completes the sampled byte, and the receiver waits again if the stop bit
was there (R3). -/
theorem Line.hearChar_of_startBit {l : Line} (h : l.AtMark) {cells : Fin 20 → Bool} (h0 : cells 0 = false)
    (h1 : cells 1 = false) :
    (l.hearChar (List.ofFn cells)).2 = some ⟨sampledByte cells, cells 19⟩ ∧
      (cells 19 = true → (l.hearChar (List.ofFn cells)).1.AtMark) := by
  obtain ⟨rxd, receiver, quiet, burst⟩ := l
  obtain ⟨rfl, rfl⟩ := h
  have start : List.ofFn cells = false :: false :: List.ofFn fun i : Fin 18 => cells (i.succ.succ) := by
    rw [List.ofFn_succ, List.ofFn_succ]
    exact congrArg₂ _ h0 (congrArg₂ _ h1 rfl)
  rw [start]
  refine ⟨rfl, fun h19 => ⟨h19, ?_⟩⟩
  exact if_pos h19

/-- Without a start bit of two half bit times no character completes in the character time (R3). -/
theorem Line.hearChar_of_no_startBit {l : Line} (h : l.AtMark) {cells : Fin 20 → Bool}
    (h01 : cells 0 = true ∨ cells 1 = true) : (l.hearChar (List.ofFn cells)).2 = none := by
  obtain ⟨rxd, receiver, quiet, burst⟩ := l
  obtain ⟨rfl, rfl⟩ := h
  rw [Line.hearChar_eq, List.ofFn_succ, List.foldl_cons]
  cases h0 : cells 0 with
  | true => exact hearNext_early _ (by simp [hearNext, Receiver.next, Receiver.passed]) rfl
  | false =>
    have h1 : cells (Fin.succ 0) = true := h01.resolve_left (by simp [h0])
    rw [List.ofFn_succ, List.foldl_cons, h1]
    exact hearNext_early _ (by simp [hearNext, Receiver.next, Receiver.passed]) rfl

/-- The character `b` is back in a character time (R17, R3): the start bit begins with it, and the samples in the
middle of the start bit, the data bits and the stop bit are those sent. -/
def ComesBack (b : Byte) (cells : Levels) : Prop :=
  cells[0]? = some false ∧ cells[1]? = some false ∧ (∀ j < 8, cells[2 * j + 3]? = some (b.getLsbD j)) ∧
    cells[19]? = some true

theorem getElem?_ofFn_eq_some {n : Nat} {α : Type} (f : Fin n → α) (k : Nat) (hk : k < n) (x : α) :
    (List.ofFn f)[k]? = some x ↔ f ⟨k, hk⟩ = x := by
  rw [List.getElem?_ofFn, dif_pos hk, Option.some_inj]

theorem comesBack_ofFn (b : Byte) (cells : Fin 20 → Bool) :
    ComesBack b (List.ofFn cells) ↔ cells 0 = false ∧ cells 1 = false ∧ sampledByte cells = b ∧ cells 19 = true := by
  have sample (j : Nat) (hj : j < 8) : (List.ofFn cells)[2 * j + 3]? = some (b.getLsbD j) ↔
      cells (sampleAt ⟨j, hj⟩) = b.getLsbD j := getElem?_ofFn_eq_some cells _ (by omega) _
  have samples : (∀ j < 8, (List.ofFn cells)[2 * j + 3]? = some (b.getLsbD j)) ↔ sampledByte cells = b := by
    rw [sampledByte_eq_iff]
    exact ⟨fun h j => (sample j j.isLt).mp (h j j.isLt), fun h j hj => (sample j hj).mpr (h ⟨j, hj⟩)⟩
  rw [ComesBack, samples, getElem?_ofFn_eq_some cells 0 (by omega), getElem?_ofFn_eq_some cells 1 (by omega),
    getElem?_ofFn_eq_some cells 19 (by omega)]
  rfl

theorem exists_ofFn {n : Nat} {cells : Levels} (hc : cells.length = n) :
    ∃ f : Fin n → Bool, cells = List.ofFn f := by
  subst hc
  exact ⟨cells.get, (List.ofFn_get cells).symm⟩

/-- What R17 compares: the character time completes `b` with its stop bit exactly if `b` came back in it. -/
theorem Line.hearChar_iff {l : Line} (h : l.AtMark) (b : Byte) {cells : Levels} (hc : cells.length = 20) :
    (l.hearChar cells).2 = some ⟨b, true⟩ ↔ ComesBack b cells := by
  obtain ⟨cells, rfl⟩ := exists_ofFn hc
  rw [comesBack_ofFn]
  by_cases start : cells 0 = false ∧ cells 1 = false
  · obtain ⟨h0, h1⟩ := start
    rw [(Line.hearChar_of_startBit h h0 h1).1]
    simp only [Option.some.injEq, RxChar.mk.injEq, h0, h1, true_and]
  · have noStart : cells 0 = true ∨ cells 1 = true := by
      rw [not_and_or, Bool.not_eq_false, Bool.not_eq_false] at start
      exact start
    rw [Line.hearChar_of_no_startBit h noStart]
    exact iff_of_false nofun fun back => start ⟨back.1, back.2.1⟩

/-- After a character that came back the next one begins at mark (R1, R3). -/
theorem Line.hearChar_atMark {l : Line} (h : l.AtMark) {b : Byte} {cells : Levels} (hc : cells.length = 20)
    (back : ComesBack b cells) : (l.hearChar cells).1.AtMark := by
  obtain ⟨cells, rfl⟩ := exists_ofFn hc
  obtain ⟨h0, h1, -, h19⟩ := (comesBack_ofFn b cells).mp back
  exact (Line.hearChar_of_startBit h h0 h1).2 h19

/-! ### The characters of a frame -/

theorem charLevels_length (b : Byte) : (charLevels b).length = 20 := rfl

/-- A character comes back as it is sent (R1). -/
theorem charLevels_comesBack (b : Byte) : ComesBack b (charLevels b) := by
  refine ⟨rfl, rfl, fun j hj => ?_, rfl⟩
  interval_cases j <;> rfl

/-- A comparison with a whole character time at hand: it ends with a fault, or goes on after the character. -/
theorem Line.compare_cons {l : Line} (h : l.AtMark) (b : Byte) (rest : List Byte) {cells : Levels}
    (hc : cells.length = 20) (more : Levels) :
    (ComesBack b cells →
      l.compare (b :: rest) (cells ++ more) = (l.hearChar cells).1.compare rest more) ∧
    (¬ ComesBack b cells → (l.compare (b :: rest) (cells ++ more)).2 = .failed) := by
  have whole : ¬ (cells ++ more).length < Config.charCells := by
    rw [List.length_append, hc]
    show ¬ 20 + more.length < 20
    omega
  have first : (cells ++ more).take Config.charCells = cells := List.take_left' hc
  have later : (cells ++ more).drop Config.charCells = more := List.drop_left' hc
  have step : l.compare (b :: rest) (cells ++ more) =
      if (l.hearChar cells).2 = some ⟨b, true⟩ then (l.hearChar cells).1.compare rest more
      else ((l.hearChar cells).1, .failed) := by
    rw [Line.compare, first, later, if_neg whole]
  rw [step]
  exact ⟨fun back => if_pos ((Line.hearChar_iff h b hc).mpr back),
    fun fault => by rw [if_neg (mt (Line.hearChar_iff h b hc).mp fault)]⟩

/-- A frame's first characters come back as they are sent: the comparison goes on from a line at mark (R17). -/
theorem Line.compare_levelsOf (before bytes : List Byte) (more : Levels) {l : Line} (h : l.AtMark) :
    ∃ l' : Line, l'.AtMark ∧ l.compare (before ++ bytes) (levelsOf before ++ more) = l'.compare bytes more := by
  induction before generalizing l with
  | nil => exact ⟨l, h, rfl⟩
  | cons b before ih =>
    have back := charLevels_comesBack b
    obtain ⟨l', hl', goesOn⟩ := ih (Line.hearChar_atMark h (charLevels_length b) back)
    refine ⟨l', hl', ?_⟩
    rw [← goesOn, List.cons_append, levelsOf, List.flatMap_cons, List.append_assoc]
    exact (Line.compare_cons h b _ (charLevels_length b) _).1 back

/-- A comparison stands at its character while less than the character time has come (R17). -/
theorem Line.compare_short (l : Line) (b : Byte) (rest : List Byte) {cells : Levels} (hc : cells.length < 20) :
    (l.compare (b :: rest) cells).2 = .holding := by
  unfold Line.compare
  exact congrArg Prod.snd (if_pos hc)

/-- Settles O28: the characters before come back one by one, and the comparison at hand decides. -/
theorem readbackFindsFirstFault : Obligations.ReadbackFindsFirstFault := by
  unfold Obligations.ReadbackFindsFirstFault
  refine ⟨fun l => ?_, fun l hrxd hwait => ⟨fun bytes => ?_, ?_, ?_⟩⟩
  · simp [Line.released, Line.over]
  · obtain ⟨l', -, done⟩ := Line.compare_levelsOf bytes [] [] (l := l) ⟨hrxd, hwait⟩
    rw [List.append_nil, List.append_nil] at done
    rw [done]
    rfl
  · intro before b rest cells hc
    obtain ⟨l', -, goesOn⟩ := Line.compare_levelsOf before (b :: rest) cells (l := l) ⟨hrxd, hwait⟩
    rw [goesOn]
    exact l'.compare_short b rest hc
  · intro before b rest cells more hc
    refine ⟨fun fault => ?_, fun back => ?_⟩
    · obtain ⟨l', atMark, goesOn⟩ := Line.compare_levelsOf before (b :: rest) (cells ++ more) (l := l) ⟨hrxd, hwait⟩
      rw [goesOn]
      exact (Line.compare_cons atMark b rest hc more).2 fault
    · obtain ⟨l', atMark, goesOn⟩ := Line.compare_levelsOf before [b] cells (l := l) ⟨hrxd, hwait⟩
      have last := (Line.compare_cons atMark b [] hc []).1 back
      rw [List.append_nil] at last
      rw [goesOn, last]
      rfl

end Sys2Proof.Machine
end

/-! SUPPORT. The end of a burst (R6): what END_OF_FRAME is for a burst under way, and what the access controller makes
of it outside a reply window. -/

section
namespace Sys2Proof.Machine

/-! ### The burst ends -/

theorem exec_endOfFrame_of_burst {s : State} {b : Burst} (hde : s.de = false) (hb : s.line.burst = some b)
    (rxd : Levels) : exec (.endOfFrame rxd) s = .next ((s.occupyWindow rxd).endBurst b (s.found rxd)) := by
  rw [exec_endOfFrame, execEndOfFrame, if_neg (by simp [hde]), if_pos (by simp [hb]), State.endOfFrame, hb]

theorem State.hears_iff (s : State) (b : Burst) :
    s.hears b = true ↔ b.own = false ∧ b.ignored = false ∧ s.station.state ≠ .unjoined := by
  simp [State.hears, and_assoc]

theorem State.endBurst_heard {s : State} {b : Burst} (h : s.hears b = true) (found : Found) :
    s.endBurst b found = (s.lineEnded.takeFound found).accessEnded (s.windowClose found) := if_pos h

theorem State.endBurst_unheard {s : State} {b : Burst} (h : s.hears b = false) (found : Found) :
    s.endBurst b found = s.lineEnded.accessEnded .noReply := if_neg (by simp [h])

theorem State.lineEnded_unchanged (s : State) : UnchangedBut [.line, .access] s s.lineEnded :=
  (s.modLine_unchanged _).append (State.modAccess_unchanged _ _)

/-- A line that has just ended a burst is idle (R5). -/
theorem State.lineIdle_of_ended {s : State} (h : s.line = Line.ended) : s.lineIdle = true := by
  rw [State.lineIdle, h]
  rfl

/-! ### The access controller outside a reply window -/

/-- R22, R23: outside a reply window a burst's end takes DEFER to GAP, and IDLE to GAP if the station wants the line. -/
theorem State.accessEnded_outside {s : State} (h : s.access.state ≠ .awaitReply) (hi : s.lineIdle = true)
    (w : WindowResult) :
    s.accessEnded w = s.modAccess fun a => { a with state := afterBurst s.access.state s.wantsLine } := by
  unfold State.accessEnded
  split
  · next hs => rw [hs, afterBurst]
  · next hs => exact absurd hs h
  · next hdefer hawait =>
    by_cases hc : s.access.state = .idle ∧ s.wantsLine = true
    · obtain ⟨hidle, hwants⟩ := hc
      simp [State.applyWants, hidle, hwants, hi, afterBurst]
    · have stays : afterBurst s.access.state s.wantsLine = s.access.state := by
        cases hs : s.access.state <;> simp_all [afterBurst]
      rw [State.applyWants, if_neg hc, stays]
      rfl

end Sys2Proof.Machine
end

/-! SUPPORT. An address conflict (R14, R46), and the entry to UNJOINED it can be (R53, R62). -/

section
namespace Sys2Proof.Machine

/-- A change of every record that leaves an initial one is read in every address (R61). -/
theorem State.peer_modPeers_map (s : State) (f : PeerRecord → PeerRecord) (h : f .initial = .initial) (a : Nat) :
    (s.modPeers fun v => v.map f).peer a = f (s.peer a) := by
  unfold State.peer
  split
  · exact h.symm
  · rw [State.modPeers_peers, Vector.getElem?_map]
    cases s.peers[a - 1]? with
    | none => exact h.symm
    | some p => rfl

/-- R21 outside a reply window. -/
theorem State.enterOff_outside {s : State} (h : s.access.state ≠ .awaitReply) :
    s.enterOff =
      s.modAccess fun _ => { Access.reset with recovery := decide (s.station.state = .lineFault) } := by
  have stays : s.closeOpenWindow = s := if_neg h
  rw [State.enterOff, stays]

/-- The station as an entry to UNJOINED leaves it (R53). -/
def Station.unjoin (st : Station) : Station :=
  { st with
    state := .unjoined
    notices := NoticeSet.empty
    listen := .stopped
    beacon := .stopped
    leaveMode := none
    leavePending := false }

/-- R53, R62: an entry to UNJOINED outside a reply window, block by block. -/
theorem State.enterUnjoined_outside {s : State} (h : s.access.state ≠ .awaitReply) :
    s.enterUnjoined = ((s.modStation Station.unjoin).modPeers fun v => v.map PeerRecord.stopTimers).modAccess
      fun _ => Access.reset := by
  unfold State.enterUnjoined
  exact State.enterOff_outside (by exact h)

/-- R46 in JOINING outside a reply window: the join fails with ADDRESS_IN_USE. -/
theorem State.addressConflict_joining {s : State} (hj : s.station.state = .joining)
    (h : s.access.state ≠ .awaitReply) :
    s.addressConflict = (((s.count .addressConflicts).modStation fun st =>
      { st.unjoin with faultReason := .addressInUse, stateChange := true }).modPeers
        fun v => v.map PeerRecord.stopTimers).modAccess fun _ => Access.reset := by
  unfold State.addressConflict
  rw [if_pos hj, State.enterUnjoined_outside (by exact h)]
  rfl

/-- R46 elsewhere: the conflict flag. -/
theorem State.addressConflict_elsewhere {s : State} (hj : s.station.state ≠ .joining) :
    s.addressConflict = (s.count .addressConflicts).modStation fun st => { st with conflict := true } :=
  if_neg hj

/-- A heard valid frame outside a reply window has its effect, and then the access controller takes the end (R6). -/
theorem exec_endOfFrame_of_frame {s : State} {rxd : Levels} {f : Frame} (h : HearsFrame s rxd f)
    (hw : s.access.state ≠ .awaitReply) :
    exec (.endOfFrame rxd) s = .next
      (((s.lineEnded.count .framesHeard).takeValid f).accessEnded (s.windowClose (.valid f))) := by
  obtain ⟨⟨hde, hears⟩, hfound⟩ := h
  obtain ⟨b, hb, hhears⟩ := Option.map_eq_some_iff.mp hears
  rw [exec_endOfFrame_of_burst hde hb, State.occupyWindow_of_not_awaiting hw, State.endBurst_heard hhears, hfound]
  rfl

/-- Settles O45: the conflict in JOINING and elsewhere, each an equation, then the end of the burst. -/
theorem addressConflict : Obligations.AddressConflict := by
  unfold Obligations.AddressConflict
  intro s rxd f hf hsource hw
  have taken : (s.lineEnded.count .framesHeard).takeValid f = (s.lineEnded.count .framesHeard).addressConflict :=
    if_pos hsource
  have ended := exec_endOfFrame_of_frame hf hw
  rw [taken] at ended
  refine ⟨fun hj => ?_, fun hj => ?_⟩
  · rw [State.addressConflict_joining (by exact hj) (by exact hw),
      State.accessEnded_outside (by nofun) (State.lineIdle_of_ended rfl)] at ended
    refine ⟨_, ended, ?_, rfl, rfl, fun a => ?_, rfl⟩
    · refine ((((((s.lineEnded_unchanged.append (State.count_unchanged _ _)).append (State.count_unchanged _ _)).append
        (State.modStation_unchanged _ _)).append (State.modPeers_unchanged _ _)).append
        (State.modAccess_unchanged _ _)).append (State.modAccess_unchanged _ _)).mono ?_
      decide
    · exact State.peer_modPeers_map s PeerRecord.stopTimers rfl a
  · rw [State.addressConflict_elsewhere (by exact hj),
      State.accessEnded_outside (by exact hw) (State.lineIdle_of_ended rfl)] at ended
    refine ⟨_, ended, ?_, rfl, rfl, rfl⟩
    refine ((((s.lineEnded_unchanged.append (State.count_unchanged _ _)).append (State.count_unchanged _ _)).append
      (State.modStation_unchanged _ _)).append (State.modAccess_unchanged _ _)).mono ?_
    decide

end Sys2Proof.Machine
end

/-! SUPPORT. The outbound store of a consistent part: where every slot stands (R83), and what a resolution and a mark
leave (R90, R92, R137). -/

section
namespace Sys2Proof.Machine

/-! ### Reading the store -/

theorem State.slot_congr {s t : State} (h : t.outbound = s.outbound) (i : Nat) : t.slot i = s.slot i := by
  rw [State.slot, State.slot, h]

theorem State.queue_congr {s t : State} (h : t.outbound = s.outbound) (d : Nat) : t.queue d = s.queue d := by
  rw [State.queue, State.queue, h]

theorem State.peer_congr {s t : State} (h : t.peers = s.peers) (a : Nat) : t.peer a = s.peer a := by
  rw [State.peer, State.peer, h]

theorem State.doneOutcome_congr {s t : State} {i : Nat} (h : t.slot i = s.slot i) :
    t.doneOutcome i = s.doneOutcome i := by
  rw [State.doneOutcome, State.doneOutcome, h]

theorem State.bulkOutcome_congr {s t : State} {i : Nat} (h : t.slot i = s.slot i) (r : MsgResult) :
    t.bulkOutcome r i = s.bulkOutcome r i := by
  simp only [State.bulkOutcome, State.outcomeOf, h]

/-- The outcomes of a queue's resolution are read from the queue and its slots. -/
theorem State.bulkOutcomes_congr {s t : State} {d : Nat} (hq : t.queue d = s.queue d)
    (hs : ∀ i ∈ s.queue d, t.slot i = s.slot i) (r : MsgResult) : t.bulkOutcomes r d = s.bulkOutcomes r d := by
  rw [State.bulkOutcomes, State.bulkOutcomes, hq]
  exact List.filterMap_congr fun i hi => State.bulkOutcome_congr (hs i hi) r

theorem State.isQueued_congr {s t : State} {i : Nat} (h : t.slot i = s.slot i) : t.isQueued i = s.isQueued i := by
  rw [State.isQueued, State.isQueued, h]

theorem State.slotPlaced_congr {s t : State} {i : Nat} (hs : t.slot i = s.slot i)
    (hq : ∀ d, (t.queue d).count i = (s.queue d).count i)
    (hw : t.outcomes.waiting.count i = s.outcomes.waiting.count i) : t.slotPlaced i = s.slotPlaced i := by
  have total : t.queuedCount i = s.queuedCount i := by simp only [State.queuedCount, hq]
  unfold State.slotPlaced
  rw [hs, total, hw]
  cases (s.slot i).msg with
  | none => rfl
  | some m =>
    dsimp only
    rw [hq]

/-- A filter takes no new slot behind a head. -/
theorem mem_tail_of_mem_tail_filter {p : Nat → Bool} {l : List Nat} {j : Nat} (h : j ∈ (l.filter p).tail) :
    j ∈ l.tail := by
  cases l with
  | nil => exact h
  | cons x rest =>
    rw [List.filter_cons] at h
    split at h
    · exact (List.mem_filter.mp h).1
    · exact (List.mem_filter.mp (List.mem_of_mem_tail h)).1

/-- What the host is owed stands while the outcome lists do and no slot becomes DONE or loses its outcome. -/
theorem State.owedOutcomes_congr {s t : State} (ho : t.outcomes = s.outcomes)
    (hd : ∀ i ∈ s.outcomes.waiting, t.doneOutcome i = s.doneOutcome i) : t.owedOutcomes = s.owedOutcomes := by
  rw [State.owedOutcomes, State.owedOutcomes, ho]
  exact congrArg _ (List.filterMap_congr hd)

/-- An address without a destination queue reads as an empty one. -/
theorem State.queue_outside (s : State) (d : Nat) (h : d ∉ destinations) : s.queue d = [] := by
  rw [mem_destinations] at h
  by_cases h0 : d = 0
  · simp [State.queue, h0]
  · simp [State.queue, h0, Vector.getElem?_eq_none (by omega : 31 ≤ d - 1)]

theorem State.mem_destinations_of_mem_queue {s : State} {d i : Nat} (h : i ∈ s.queue d) : d ∈ destinations := by
  by_contra hd
  rw [s.queue_outside d hd] at h
  cases h

/-! ### Where a slot stands -/

/-- The message is not resolved (R92). -/
def Message.Live (m : Message) : Prop := ∀ r, m.state ≠ .done r

theorem State.slotPlaced_free {s : State} {i : Nat} (h : (s.slot i).msg = none) :
    s.slotPlaced i = true ↔ s.queuedCount i = 0 ∧ s.outcomes.waiting.count i = 0 := by
  simp [State.slotPlaced, h]

theorem State.slotPlaced_done {s : State} {i : Nat} {m : Message} {r : MsgResult} (h : (s.slot i).msg = some m)
    (hd : m.state = .done r) :
    s.slotPlaced i = true ↔ s.queuedCount i = 0 ∧ s.outcomes.waiting.count i = 1 := by
  simp [State.slotPlaced, h, hd]

theorem State.slotPlaced_live {s : State} {i : Nat} {m : Message} (h : (s.slot i).msg = some m) (hl : m.Live) :
    s.slotPlaced i = true ↔ m.dest ∈ destinations ∧ s.queuedCount i = 1 ∧ (s.queue m.dest).count i = 1 ∧
      s.outcomes.waiting.count i = 0 := by
  unfold State.slotPlaced
  rw [h]
  cases hs : m.state with
  | done r => exact absurd hs (hl r)
  | _ => simp [hs, and_assoc]

/-- A queue counts a slot no more often than all queues together. -/
theorem State.count_le_queuedCount (s : State) (d i : Nat) : (s.queue d).count i ≤ s.queuedCount i := by
  by_cases hd : d ∈ destinations
  · exact List.le_sum_of_mem (List.mem_map.mpr ⟨d, hd, rfl⟩)
  · simp [s.queue_outside d hd]

/-- Two queues count a slot no more often than all queues together. -/
theorem State.count_add_count_le (s : State) {d e : Nat} (hne : e ≠ d) (i : Nat) :
    (s.queue d).count i + (s.queue e).count i ≤ s.queuedCount i := by
  by_cases hd : d ∈ destinations
  · by_cases he : e ∈ destinations
    · have others := List.le_sum_of_mem (List.mem_map.mpr
        ⟨e, (List.mem_erase_of_ne hne).mpr he, rfl⟩ :
          (s.queue e).count i ∈ (destinations.erase d).map fun d => (s.queue d).count i)
      rw [State.queuedCount, ← List.sum_map_erase (fun d => (s.queue d).count i) hd]
      exact Nat.add_le_add_left others _
    · simpa [s.queue_outside e he] using s.count_le_queuedCount d i
  · simpa [s.queue_outside d hd] using s.count_le_queuedCount e i

section
variable {s : State} (h : StoreConsistent s)
include h

theorem StoreConsistent.placed {i : Nat} (hi : i < 48) : s.slotPlaced i = true := by
  obtain ⟨placed, -⟩ := h
  exact placed i hi

/-- The queues name slots of the part. -/
theorem StoreConsistent.lt_of_mem_queue {d i : Nat} (hi : i ∈ s.queue d) : i < 48 := by
  obtain ⟨-, named, -⟩ := h
  exact named d (State.mem_destinations_of_mem_queue hi) i hi

/-- Every slot behind a head is QUEUED (R84). -/
theorem StoreConsistent.isQueued_of_mem_tail {d i : Nat} (hi : i ∈ (s.queue d).tail) : s.isQueued i = true := by
  obtain ⟨-, -, -, tails, -⟩ := h
  exact tails d (State.mem_destinations_of_mem_queue (List.mem_of_mem_tail hi)) i hi

/-- R136: the outcome queue holds 16 records at most. -/
theorem StoreConsistent.outcomes_le : s.outcomes.queue.length ≤ 16 := by
  obtain ⟨-, -, -, -, bound, -⟩ := h
  exact bound

/-- A slot in a queue holds a message for that destination that is not resolved (R83). -/
theorem StoreConsistent.of_mem_queue {d i : Nat} (hi : i ∈ s.queue d) :
    ∃ m, (s.slot i).msg = some m ∧ m.Live ∧ m.dest = d := by
  have placed := h.placed (h.lt_of_mem_queue hi)
  have here : 0 < (s.queue d).count i := List.count_pos_iff.mpr hi
  have total := s.count_le_queuedCount d i
  cases hm : (s.slot i).msg with
  | none =>
    have := (State.slotPlaced_free hm).mp placed
    omega
  | some m =>
    by_cases hl : m.Live
    · refine ⟨m, rfl, hl, ?_⟩
      obtain ⟨-, once, there, -⟩ := (State.slotPlaced_live hm hl).mp placed
      by_contra hne
      have := s.count_add_count_le hne i
      omega
    · obtain ⟨r, hr⟩ : ∃ r, m.state = .done r := by simpa [Message.Live] using hl
      have := (State.slotPlaced_done hm hr).mp placed
      omega

/-- A slot stands in one queue only (R83). -/
theorem StoreConsistent.notMem_queue {d e i : Nat} (hi : i ∈ s.queue d) (hne : e ≠ d) : i ∉ s.queue e := by
  intro he
  obtain ⟨m, hm, -, hd⟩ := h.of_mem_queue hi
  obtain ⟨m', hm', -, hd'⟩ := h.of_mem_queue he
  rw [hm, Option.some_inj] at hm'
  exact hne (by rw [← hd', ← hd, hm'])

/-- A message not resolved stands in the queue of its destination. -/
theorem StoreConsistent.mem_queue {i : Nat} {m : Message} (hm : (s.slot i).msg = some m) (hl : m.Live) :
    i ∈ s.queue m.dest := by
  obtain ⟨-, -, there, -⟩ := (State.slotPlaced_live hm hl).mp (h.placed (s.slot_lt i m hm))
  exact List.count_pos_iff.mp (by omega)

/-- No slot stands twice in a queue (R83). -/
theorem StoreConsistent.nodup_queue (d : Nat) : (s.queue d).Nodup := by
  rw [List.nodup_iff_count_le_one]
  intro i
  by_cases hi : i ∈ s.queue d
  · obtain ⟨m, hm, hl, rfl⟩ := h.of_mem_queue hi
    obtain ⟨-, -, there, -⟩ := (State.slotPlaced_live hm hl).mp (h.placed (s.slot_lt i m hm))
    exact there.le
  · simp [List.count_eq_zero_of_not_mem hi]

/-- A message not resolved does not wait for the outcome queue. -/
theorem StoreConsistent.notMem_waiting {i : Nat} {m : Message} (hm : (s.slot i).msg = some m) (hl : m.Live) :
    i ∉ s.outcomes.waiting := by
  obtain ⟨-, -, -, away⟩ := (State.slotPlaced_live hm hl).mp (h.placed (s.slot_lt i m hm))
  exact List.count_eq_zero.mp away

/-- R137: with room in the outcome queue no slot waits. -/
theorem StoreConsistent.waiting_eq_nil (room : s.outcomes.queue.length < 16) : s.outcomes.waiting = [] := by
  obtain ⟨-, -, -, -, -, full⟩ := h
  by_contra hne
  exact absurd (full hne) room.ne

/-- A slot that is not QUEUED stands at the head, and every other slot of its queue is QUEUED (R84). -/
theorem StoreConsistent.isQueued_of_ne {d i j : Nat} (hi : i ∈ s.queue d) (hq : s.isQueued i = false)
    (hj : j ∈ s.queue d) (hne : j ≠ i) : s.isQueued j = true := by
  have tails {k : Nat} (hk : k ∈ (s.queue d).tail) := h.isQueued_of_mem_tail hk
  cases hl : s.queue d with
  | nil => simp [hl] at hi
  | cons x rest =>
    rw [hl] at hi hj tails
    have behind {k : Nat} (hk : k ∈ x :: rest) (hx : k ≠ x) : s.isQueued k = true :=
      tails ((List.mem_cons.mp hk).resolve_left hx)
    by_cases hx : i = x
    · exact behind hj (hx ▸ hne)
    · simp [behind hi hx] at hq

end

/-- A change that keeps every reading the consistency is about keeps it. -/
theorem StoreConsistent.congr {s t : State} (h : StoreConsistent s) (hp : ∀ i, t.slotPlaced i = s.slotPlaced i)
    (hi : ∀ i, t.isQueued i = s.isQueued i) (hq : ∀ d, t.queue d = s.queue d) (ho : t.outcomes = s.outcomes) :
    StoreConsistent t := by
  simpa only [StoreConsistent, hp, hi, hq, ho] using h

/-- The consistency is about the slots and queues and the outcome lists. -/
theorem StoreConsistent.of_blocks {s t : State} (h : StoreConsistent s) (hs : t.outbound = s.outbound)
    (ho : t.outcomes = s.outcomes) : StoreConsistent t :=
  h.congr
    (fun i => State.slotPlaced_congr (State.slot_congr hs i) (fun d => by rw [State.queue_congr hs]) (by rw [ho]))
    (fun i => State.isQueued_congr (State.slot_congr hs i)) (State.queue_congr hs) ho

end Sys2Proof.Machine
end

/-! SUPPORT. What resolutions and marks do to a consistent store (R90, R92, R93, R68): one message, a queue, a peer
made SILENT. -/

section
namespace Sys2Proof.Machine

/-! ### The blocks a resolution leaves -/

/-- Resolving and marking messages changes the LEAVE notice, the slots and queues, and the outcome lists only. -/
def Moves (s t : State) : Prop := Settles s t ∧ t.peers = s.peers ∧ t.engine = s.engine

theorem Moves.refl (s : State) : Moves s s := ⟨.refl s, rfl, rfl⟩

theorem Moves.trans {s t u : State} : Moves s t → Moves t u → Moves s u
  | ⟨h, hp, he⟩, ⟨k, kp, ke⟩ => ⟨h.trans k, kp.trans hp, ke.trans he⟩

theorem Moves.foldl {β : Type} {op : State → β → State} (h : ∀ s b, Moves s (op s b)) (l : List β) (s : State) :
    Moves s (l.foldl op s) :=
  foldl_invariant op (Moves s) (fun t b ht => ht.trans (h t b)) l s (.refl s)

theorem Moves.unchanged {s t : State} (h : Moves s t) : UnchangedBut [.station, .outbound, .outcomes] s t := by
  obtain ⟨settles, peers, engine⟩ := h
  intro b hb
  cases b
  case station | outbound | outcomes => exact absurd (by decide) hb
  exacts [settles.pins, settles.line, settles.access, peers, engine, settles.inbound, settles.counters,
    settles.link, settles.generator, settles.ticks, settles.pending]

theorem State.watchQueues_moves (s : State) : Moves s s.watchQueues := by
  refine ⟨s.watchQueues_settles, ?_⟩
  unfold State.watchQueues
  split <;> exact ⟨rfl, rfl⟩

theorem State.modMessage_moves (s : State) (i : Nat) (f : Message → Message) : Moves s (s.modMessage i f) :=
  ⟨s.modMessage_settles i f, s.modMessage_peers i f, s.modMessage_engine i f⟩

theorem State.handOutcome_moves (s : State) (i : Nat) (m : Message) (r : MsgResult) :
    Moves s (s.handOutcome i m r) := by
  refine ⟨s.handOutcome_settles i m r, ?_⟩
  unfold State.handOutcome
  dsimp only
  split <;> exact ⟨rfl, rfl⟩

theorem State.resolve_moves (s : State) (i : Nat) (r : MsgResult) : Moves s (s.resolve i r) := by
  unfold State.resolve
  split
  · exact .refl s
  · next m _ =>
    split
    · exact .refl s
    · have left : Moves s (s.dequeue m.dest i) :=
        ⟨s.modQueue_settles _ _, s.modQueue_peers _ _, s.modQueue_engine _ _⟩
      exact (left.trans (State.handOutcome_moves _ i m r)).trans (State.watchQueues_moves _)

theorem State.resolveWaiting_moves (r : MsgResult) (s : State) (i : Nat) :
    Moves s (State.resolveWaiting r s i) := by
  unfold State.resolveWaiting
  split
  · exact .refl s
  · split
    exacts [s.resolve_moves i r, s.resolve_moves i r, .refl s]

theorem State.resolveQueue_moves (s : State) (d : Nat) (r : MsgResult) : Moves s (s.resolveQueue d r) :=
  .foldl (State.resolveWaiting_moves r) _ s

theorem State.markQueue_moves (s : State) (d : Nat) (k : Mark) : Moves s (s.markQueue d k) :=
  .foldl (fun s i => s.modMessage_moves i _) _ s

/-! ### A resolution -/

theorem State.watchQueues_outbound (s : State) : s.watchQueues.outbound = s.outbound := by
  unfold State.watchQueues
  split <;> rfl

theorem State.watchQueues_outcomes (s : State) : s.watchQueues.outcomes = s.outcomes := by
  unfold State.watchQueues
  split <;> rfl

/-- A resolution leaves every other slot. -/
theorem State.resolve_slot_other (s : State) (i : Nat) (r : MsgResult) {j : Nat} (hne : j ≠ i) :
    (s.resolve i r).slot j = s.slot j := by
  unfold State.resolve
  split
  · rfl
  · next m _ =>
    split
    · rfl
    · rw [State.slot_congr (State.watchQueues_outbound _), State.handOutcome]
      split <;> exact (State.slot_setSlot_other _ i j _ hne).trans (s.slot_modQueue m.dest j _)

section
variable {s : State} {i : Nat} {m : Message} (hm : (s.slot i).msg = some m) (hl : m.Live) (r : MsgResult)
include hm hl

/-- R137: the slot of a resolved message becomes FREE, or DONE when the outcome queue is full. -/
theorem State.resolve_slot_self :
    (s.resolve i r).slot i = ⟨(s.slot i).tag,
      if s.outcomes.queue.length < 16 then none else some { m with state := .done r }⟩ := by
  have hi := s.slot_lt i m hm
  rw [s.resolve_live i r m hm hl, State.slot_congr (State.watchQueues_outbound _), State.handOutcome]
  split <;> simp_all [State.dequeue, State.slot_setSlot_self]

/-- R137: the outcome enters the outcome queue, or the slot waits behind a full one. -/
theorem State.resolve_outcomes :
    (s.resolve i r).outcomes =
      if s.outcomes.queue.length < 16 then { s.outcomes with queue := s.outcomes.queue ++ [s.outcomeOf r i m] }
      else { s.outcomes with waiting := s.outcomes.waiting ++ [i] } := by
  rw [s.resolve_live i r m hm hl, State.watchQueues_outcomes, State.handOutcome]
  split <;> simp_all [State.dequeue, State.outcomeOf]

/-- The waiting-outcome list counts every other slot as before. -/
theorem State.resolve_waiting_count {j : Nat} (hne : j ≠ i) :
    (s.resolve i r).outcomes.waiting.count j = s.outcomes.waiting.count j := by
  rw [State.resolve_outcomes hm hl]
  split
  · rfl
  · simp [List.count_append, hne.symm]

variable (h : StoreConsistent s)
include h

/-- R92: the slot leaves its queue, and no other queue changes. -/
theorem State.resolve_queue (d : Nat) : (s.resolve i r).queue d = (s.queue d).filter fun j => j ≠ i := by
  have hd := (mem_destinations _).mp (State.mem_destinations_of_mem_queue (h.mem_queue hm hl))
  have handed : (s.resolve i r).queue d = (s.dequeue m.dest i).queue d := by
    rw [s.resolve_live i r m hm hl, State.queue_congr (State.watchQueues_outbound _), State.handOutcome]
    split <;> rfl
  rw [handed, State.dequeue]
  by_cases hne : d = m.dest
  · rw [hne, State.queue_modQueue_self s m.dest _ (by omega) (by omega)]
  · rw [State.queue_modQueue_other s m.dest d _ hne, eq_comm, List.filter_eq_self]
    intro j hj
    have : j ≠ i := fun hji => h.notMem_queue (h.mem_queue hm hl) hne (hji ▸ hj)
    simpa using this

/-- A slot other than the resolved one is counted in the queues as before. -/
theorem State.resolve_queue_count {j : Nat} (hne : j ≠ i) (d : Nat) :
    ((s.resolve i r).queue d).count j = (s.queue d).count j := by
  rw [State.resolve_queue hm hl r h, List.count_filter (by simpa using hne)]

theorem State.resolve_queuedCount_self : (s.resolve i r).queuedCount i = 0 := by
  have away (d : Nat) : ((s.resolve i r).queue d).count i = 0 := by
    rw [State.resolve_queue hm hl r h]
    exact List.count_eq_zero.mpr (by simp)
  simp [State.queuedCount, away]

/-- R92, R137: what the host is owed grows by the outcome of the message, behind all the others. -/
theorem State.resolve_owed : (s.resolve i r).owedOutcomes = s.owedOutcomes ++ [s.outcomeOf r i m] := by
  rw [State.owedOutcomes, State.resolve_outcomes hm hl]
  split
  · next room => simp [State.owedOutcomes, h.waiting_eq_nil room]
  · next full =>
    have others : s.outcomes.waiting.filterMap (s.resolve i r).doneOutcome =
        s.outcomes.waiting.filterMap s.doneOutcome := List.filterMap_congr fun j hj =>
      State.doneOutcome_congr (s.resolve_slot_other i r fun hji => h.notMem_waiting hm hl (hji ▸ hj))
    have this : (s.resolve i r).doneOutcome i = some (s.outcomeOf r i m) := by
      simp [State.doneOutcome, State.resolve_slot_self hm hl, full, State.outcomeOf]
    simp [State.owedOutcomes, others, this]

/-- The resolved slot has its place: FREE and in no list, or DONE and waiting (R83, R137). -/
theorem State.resolve_slotPlaced_self : (s.resolve i r).slotPlaced i = true := by
  have slot := State.resolve_slot_self hm hl r
  have outcomes := State.resolve_outcomes hm hl r
  have queued := State.resolve_queuedCount_self hm hl r h
  have away := List.count_eq_zero.mpr (h.notMem_waiting hm hl)
  by_cases room : s.outcomes.queue.length < 16
  · rw [if_pos room] at slot outcomes
    exact (State.slotPlaced_free (by rw [slot])).mpr ⟨queued, by rw [outcomes]; exact away⟩
  · rw [if_neg room] at slot outcomes
    refine (State.slotPlaced_done (by rw [slot]) rfl).mpr ⟨queued, ?_⟩
    rw [outcomes, List.count_append, away, List.count_singleton_self]

/-- R83, R84, R136, R137: a resolution keeps every slot in its one place. -/
theorem State.resolve_consistent : StoreConsistent (s.resolve i r) := by
  have queue := State.resolve_queue hm hl r h
  have outcomes := State.resolve_outcomes hm hl r
  have stays {d j : Nat} (hj : j ∈ (s.resolve i r).queue d) : j ∈ s.queue d ∧ j ≠ i := by
    rw [queue] at hj
    simpa using hj
  refine ⟨fun j hj => ?_, fun d _ j hj => h.lt_of_mem_queue (stays hj).1, ?_, fun d _ j hj => ?_, ?_⟩
  · by_cases hne : j = i
    · exact hne ▸ State.resolve_slotPlaced_self hm hl r h
    · rw [State.slotPlaced_congr (s.resolve_slot_other i r hne) (State.resolve_queue_count hm hl r h hne)
        (State.resolve_waiting_count hm hl r hne)]
      exact h.placed hj
  · obtain ⟨-, -, waits, -⟩ := h
    rw [outcomes]
    split
    · exact waits
    · intro j hj
      rcases List.mem_append.mp hj with hj | hj
      · exact waits j hj
      · exact List.mem_singleton.mp hj ▸ s.slot_lt i m hm
  · have hne : j ≠ i := (stays (List.mem_of_mem_tail hj)).2
    rw [State.isQueued_congr (s.resolve_slot_other i r hne)]
    rw [queue] at hj
    exact h.isQueued_of_mem_tail (mem_tail_of_mem_tail_filter hj)
  · rw [outcomes]
    by_cases room : s.outcomes.queue.length < 16
    · simp [room, h.waiting_eq_nil room]
    · have hfull : s.outcomes.queue.length = 16 := by
        have := h.outcomes_le
        omega
      simp [hfull]

end

/-! ### A queue resolved -/

/-- What resolving the waiting messages among the slots of `l` leaves of a consistent store (R93). -/
structure ResolvesWaiting (r : MsgResult) (l : List Nat) (s t : State) : Prop where
  consistent : StoreConsistent t
  owed : t.owedOutcomes = s.owedOutcomes ++ l.filterMap (s.bulkOutcome r)
  queue : ∀ d, t.queue d = (s.queue d).filter fun j => decide (j ∉ l) || (s.bulkOutcome r j).isNone
  slot : ∀ j, j ∉ l ∨ s.bulkOutcome r j = none → t.slot j = s.slot j

/-- A message that waits is not resolved, and a resolution of many resolves it (R93). -/
theorem State.resolveWaiting_of_bulk {s : State} {r : MsgResult} {i : Nat} {o : OutcomeRecord}
    (h : s.bulkOutcome r i = some o) :
    ∃ m, (s.slot i).msg = some m ∧ m.Live ∧ o = s.outcomeOf r i m ∧ State.resolveWaiting r s i = s.resolve i r := by
  unfold State.bulkOutcome at h
  unfold State.resolveWaiting
  cases hm : (s.slot i).msg with
  | none => simp [hm] at h
  | some m =>
    refine ⟨m, rfl, ?_⟩
    cases hs : m.state <;> simp_all [Message.Live]

/-- A message that does not wait is left (R93). -/
theorem State.resolveWaiting_of_not_bulk {s : State} {r : MsgResult} {i : Nat} (h : s.bulkOutcome r i = none) :
    State.resolveWaiting r s i = s := by
  unfold State.bulkOutcome at h
  unfold State.resolveWaiting
  cases hm : (s.slot i).msg with
  | none => rfl
  | some m => cases hs : m.state <;> simp_all

theorem State.resolveWaiting_resolves {s : State} (h : StoreConsistent s) (r : MsgResult) (i : Nat) :
    ResolvesWaiting r [i] s (State.resolveWaiting r s i) := by
  cases hb : s.bulkOutcome r i with
  | none =>
    rw [State.resolveWaiting_of_not_bulk hb]
    refine ⟨h, by simp [hb], fun d => (List.filter_eq_self.mpr fun j _ => ?_).symm, fun _ _ => rfl⟩
    by_cases hji : j = i <;> simp [hji, hb]
  | some o =>
    obtain ⟨m, hm, hl, rfl, resolved⟩ := State.resolveWaiting_of_bulk hb
    rw [resolved]
    refine ⟨State.resolve_consistent hm hl r h, ?_, fun d => ?_, fun j hj => ?_⟩
    · simp [State.resolve_owed hm hl r h, hb]
    · rw [State.resolve_queue hm hl r h]
      refine List.filter_congr fun j _ => ?_
      by_cases hji : j = i <;> simp [hji, hb]
    · refine s.resolve_slot_other i r fun hji => ?_
      simp [hji, hb] at hj

/-- One slot resolved, then the rest: of distinct slots each is resolved as it stood. -/
theorem ResolvesWaiting.cons {r : MsgResult} {i : Nat} {l : List Nat} {s t u : State} (hi : i ∉ l)
    (h : ResolvesWaiting r [i] s t) (k : ResolvesWaiting r l t u) : ResolvesWaiting r (i :: l) s u := by
  have slot {j : Nat} (hj : j ∈ l) : t.slot j = s.slot j :=
    h.slot j (.inl fun hji => hi (List.mem_singleton.mp hji ▸ hj))
  have bulk {j : Nat} (hj : j ∈ l) : t.bulkOutcome r j = s.bulkOutcome r j := State.bulkOutcome_congr (slot hj) r
  refine ⟨k.consistent, ?_, fun d => ?_, fun j hj => ?_⟩
  · have later : l.filterMap (t.bulkOutcome r) = l.filterMap (s.bulkOutcome r) :=
      List.filterMap_congr fun j hj => bulk hj
    rw [k.owed, h.owed, List.append_assoc, later, ← List.filterMap_append]
    rfl
  · rw [k.queue, h.queue, List.filter_filter]
    refine List.filter_congr fun j _ => ?_
    by_cases hj : j ∈ l
    · have hne : j ≠ i := fun hji => hi (hji ▸ hj)
      simp [hj, hne, bulk hj]
    · by_cases hji : j = i <;> simp [hj, hji, hi]
  · by_cases hjl : j ∈ l
    · have none : s.bulkOutcome r j = none := hj.resolve_left (by simp [hjl])
      rw [k.slot j (.inr ((bulk hjl).trans none)), slot hjl]
    · rw [k.slot j (.inl hjl)]
      refine h.slot j (hj.imp_left fun hn hji => hn ?_)
      exact List.mem_cons.mpr (.inl (List.mem_singleton.mp hji))

theorem State.foldl_resolveWaiting {s : State} (h : StoreConsistent s) (r : MsgResult) {l : List Nat}
    (distinct : l.Nodup) : ResolvesWaiting r l s (l.foldl (State.resolveWaiting r) s) := by
  induction l generalizing s with
  | nil => exact ⟨h, by simp, by simp, fun _ _ => rfl⟩
  | cons i l ih =>
    obtain ⟨hi, distinct⟩ := List.nodup_cons.mp distinct
    have first := State.resolveWaiting_resolves h r i
    exact first.cons hi (ih first.consistent distinct)

theorem State.resolveQueue_resolves {s : State} (h : StoreConsistent s) (d : Nat) (r : MsgResult) :
    ResolvesWaiting r (s.queue d) s (s.resolveQueue d r) :=
  State.foldl_resolveWaiting h r (h.nodup_queue d)

/-! ### Marks -/

/-- A slot with its message marked (R90). -/
def Slot.withMark (k : Mark) (x : Slot) : Slot := ⟨x.tag, x.msg.map (Message.withMark k)⟩

theorem State.setMark_slot_self (k : Mark) (s : State) (i : Nat) :
    (State.setMark k s i).slot i = (s.slot i).withMark k := by
  rw [State.setMark, s.slot_modMessage_self]
  obtain ⟨tag, _ | ⟨dest, cls, payload, attempts, seq, state⟩⟩ := s.slot i
  · rfl
  · rcases state with _ | (_ | _) | (_ | _) | _ | _ <;> rfl

theorem State.setMark_slot_other (k : Mark) (s : State) (i : Nat) {j : Nat} (hne : j ≠ i) :
    (State.setMark k s i).slot j = s.slot j := s.slot_modMessage_other i j _ hne

/-- A second mark changes nothing (R90). -/
theorem Slot.withMark_withMark (k : Mark) (x : Slot) : (x.withMark k).withMark k = x.withMark k := by
  have again : ∀ m : Message, (m.withMark k).withMark k = m.withMark k := by
    intro m
    obtain ⟨dest, cls, payload, attempts, seq, state⟩ := m
    cases state <;> rfl
  obtain ⟨tag, _ | m⟩ := x
  · rfl
  · exact congrArg (fun m => (⟨tag, some m⟩ : Slot)) (again m)

theorem State.foldl_setMark_slot (k : Mark) (l : List Nat) (s : State) (j : Nat) :
    (l.foldl (State.setMark k) s).slot j = if j ∈ l then (s.slot j).withMark k else s.slot j := by
  induction l generalizing s with
  | nil => rfl
  | cons i l ih =>
    rw [List.foldl_cons, ih]
    by_cases hji : j = i
    · subst hji
      rw [State.setMark_slot_self, if_pos List.mem_cons_self, Slot.withMark_withMark, ite_self]
    · rw [State.setMark_slot_other k s i hji]
      simp only [List.mem_cons, hji, false_or]

theorem State.markQueue_slot (s : State) (d : Nat) (k : Mark) (j : Nat) :
    (s.markQueue d k).slot j = if j ∈ s.queue d then (s.slot j).withMark k else s.slot j :=
  State.foldl_setMark_slot k (s.queue d) s j

theorem State.markQueue_queue (s : State) (d : Nat) (k : Mark) (e : Nat) : (s.markQueue d k).queue e = s.queue e :=
  foldl_keeps (State.setMark k) (fun s => s.queue e) (fun s i => s.queue_modMessage i e _) _ s

theorem State.markQueue_outcomes (s : State) (d : Nat) (k : Mark) : (s.markQueue d k).outcomes = s.outcomes :=
  foldl_keeps (State.setMark k) State.outcomes (fun s i => s.modMessage_outcomes i _) _ s

/-- Marks leave which messages are resolved, and with which outcome. -/
theorem State.markQueue_doneOutcome (s : State) (d : Nat) (k : Mark) (j : Nat) :
    (s.markQueue d k).doneOutcome j = s.doneOutcome j := by
  rw [State.doneOutcome, State.doneOutcome, State.markQueue_slot]
  by_cases hj : j ∈ s.queue d
  · rw [if_pos hj]
    obtain ⟨tag, _ | ⟨dest, cls, payload, attempts, seq, state⟩⟩ := s.slot j
    · rfl
    · cases state <;> rfl
  · rw [if_neg hj]

theorem State.markQueue_owed (s : State) (d : Nat) (k : Mark) : (s.markQueue d k).owedOutcomes = s.owedOutcomes :=
  State.owedOutcomes_congr (s.markQueue_outcomes d k) fun j _ => s.markQueue_doneOutcome d k j

/-- Marks move no slot. -/
theorem State.markQueue_consistent {s : State} (h : StoreConsistent s) (d : Nat) (k : Mark) :
    StoreConsistent (s.markQueue d k) := by
  have queue := s.markQueue_queue d k
  have outcomes := s.markQueue_outcomes d k
  have total (j : Nat) : (s.markQueue d k).queuedCount j = s.queuedCount j := by simp only [State.queuedCount, queue]
  refine h.congr (fun j => ?_) (fun j => ?_) queue outcomes
  · rw [State.slotPlaced, State.slotPlaced, State.markQueue_slot, total, outcomes]
    split_ifs
    · obtain ⟨tag, _ | ⟨dest, cls, payload, attempts, seq, state⟩⟩ := s.slot j
      · rfl
      · cases state <;> simp [Slot.withMark, Message.withMark, queue]
    · simp only [queue]
  · rw [State.isQueued, State.isQueued, State.markQueue_slot]
    split_ifs
    · obtain ⟨tag, _ | ⟨dest, cls, payload, attempts, seq, state⟩⟩ := s.slot j
      · rfl
      · cases state <;> rfl
    · rfl

/-! ### A peer made SILENT -/

/-- The record of a peer made SILENT (R68). -/
def PeerRecord.silenced (p : PeerRecord) : PeerRecord := { p with presence := .silent, presenceTimer := .stopped }

/-- A change of one record is made from the records alone. -/
theorem State.modPeer_peers_congr {s t : State} (h : t.peers = s.peers) (a : Nat) (f : PeerRecord → PeerRecord) :
    (t.modPeer a f).peers = (s.modPeer a f).peers := by
  unfold State.modPeer
  split
  · exact h
  · rw [State.modPeers_peers, State.modPeers_peers, h, State.peer_congr h]

theorem State.makeSilent_moves (s : State) (a : Nat) : Moves (s.modPeer a PeerRecord.silenced) (s.makeSilent a) :=
  (State.resolveQueue_moves _ a _).trans (State.markQueue_moves _ a _)

theorem State.makeSilent_unchanged (s : State) (a : Nat) :
    UnchangedBut [.peers, .station, .outbound, .outcomes] s (s.makeSilent a) :=
  (s.modPeer_unchanged a _).append (s.makeSilent_moves a).unchanged

theorem State.departure_unchanged (s : State) (a : Nat) :
    UnchangedBut [.peers, .station, .outbound, .outcomes] s (s.departure a) :=
  (s.makeSilent_unchanged a).trans ((State.modPeer_unchanged _ a _).mono (by decide))

theorem State.makeSilent_peer (s : State) (a b : Nat) :
    (s.makeSilent a).peer b = (s.modPeer a PeerRecord.silenced).peer b :=
  State.peer_congr (s.makeSilent_moves a).2.1 b

/-- Only the slots, queues and outcome lists of the state before matter to a resolution. -/
theorem ResolvesWaiting.of_blocks {r : MsgResult} {l : List Nat} {s s' t : State} (h : ResolvesWaiting r l s' t)
    (hs : s'.outbound = s.outbound) (ho : s'.outcomes = s.outcomes) : ResolvesWaiting r l s t := by
  have slot := State.slot_congr hs
  have bulk : s'.bulkOutcome r = s.bulkOutcome r := funext fun i => State.bulkOutcome_congr (slot i) r
  have owed : s'.owedOutcomes = s.owedOutcomes :=
    State.owedOutcomes_congr ho fun i _ => State.doneOutcome_congr (slot i)
  refine ⟨h.consistent, ?_, fun d => ?_, fun j hj => ?_⟩
  · rw [h.owed, owed, bulk]
  · rw [h.queue, State.queue_congr hs, bulk]
  · rw [h.slot j (by rwa [bulk]), slot]

/-- R68 up to its marks: the peer is SILENT, and its messages that wait are resolved. -/
def State.silenceWaiting (s : State) (a : Nat) : State :=
  (s.modPeer a PeerRecord.silenced).resolveQueue a .peerSilent

theorem State.makeSilent_eq (s : State) (a : Nat) :
    s.makeSilent a = (s.silenceWaiting a).markQueue a .peerSilent := rfl

section
variable {s : State} (h : StoreConsistent s) (a : Nat)
include h

theorem State.silenceWaiting_resolves : ResolvesWaiting .peerSilent (s.queue a) s (s.silenceWaiting a) := by
  have same := s.modPeer_outbound a PeerRecord.silenced
  have outcomes := s.modPeer_outcomes a PeerRecord.silenced
  have resolves := State.resolveQueue_resolves (h.of_blocks same outcomes) a .peerSilent
  rw [State.modPeer_queue] at resolves
  exact resolves.of_blocks same outcomes

theorem State.makeSilent_consistent : StoreConsistent (s.makeSilent a) :=
  State.markQueue_consistent (State.silenceWaiting_resolves h a).consistent a .peerSilent

/-- R68, R93: the outcomes of the messages that wait for `a`, head first. -/
theorem State.makeSilent_owed : (s.makeSilent a).owedOutcomes = s.owedOutcomes ++ s.bulkOutcomes .peerSilent a := by
  rw [State.makeSilent_eq, State.markQueue_owed, (State.silenceWaiting_resolves h a).owed]
  rfl

/-- R93: the queue of `a` keeps the message in flight only. -/
theorem State.makeSilent_queue_self :
    (s.makeSilent a).queue a = (s.queue a).filter fun j => (s.bulkOutcome .peerSilent j).isNone := by
  rw [State.makeSilent_eq, State.markQueue_queue, (State.silenceWaiting_resolves h a).queue]
  refine List.filter_congr fun j hj => ?_
  simp [hj]

theorem State.makeSilent_queue_other {d : Nat} (hne : d ≠ a) : (s.makeSilent a).queue d = s.queue d := by
  rw [State.makeSilent_eq, State.markQueue_queue, (State.silenceWaiting_resolves h a).queue, List.filter_eq_self]
  intro j hj
  simp [h.notMem_queue hj hne.symm]

/-- The slots of other destinations stand. -/
theorem State.makeSilent_slot_other {j : Nat} (hj : j ∉ s.queue a) : (s.makeSilent a).slot j = s.slot j := by
  have resolves := State.silenceWaiting_resolves h a
  have away : j ∉ (s.silenceWaiting a).queue a := by
    rw [resolves.queue]
    exact fun hm => hj (List.mem_filter.mp hm).1
  rw [State.makeSilent_eq, State.markQueue_slot, if_neg away, resolves.slot j (.inl hj)]

/-- R90, R93: the message in flight is marked. -/
theorem State.makeSilent_slot_marked {j : Nat} (hj : j ∈ s.queue a) (hb : s.bulkOutcome .peerSilent j = none) :
    (s.makeSilent a).slot j = (s.slot j).withMark .peerSilent := by
  have resolves := State.silenceWaiting_resolves h a
  have there : j ∈ (s.silenceWaiting a).queue a := by
    rw [resolves.queue]
    exact List.mem_filter.mpr ⟨hj, by simp [hb]⟩
  rw [State.makeSilent_eq, State.markQueue_slot, if_pos there, resolves.slot j (.inr hb)]

end

end Sys2Proof.Machine
end

/-! SUPPORT. The reply window that closes with no reply (R32, R108, R111): what it leaves in each of its three cases. -/

section
namespace Sys2Proof.Machine

/-- R32, R111: the window closes with no reply, and the access controller contends or idles. -/
def State.closeUnanswered (s : State) : State := (s.closeWindow .noReply).contendOrIdle

/-- R31, R32: an occupied window is closed by the end of a burst. -/
theorem State.accessEnded_occupied {s : State} (h : s.access.state = .awaitReply) (ho : s.access.occupied = true) :
    s.accessEnded .noReply = s.closeUnanswered := by
  simp [State.accessEnded, State.closeUnanswered, h, ho]

/-- R31: a window that nothing has occupied stays open. -/
theorem State.accessEnded_unoccupied {s : State} (h : s.access.state = .awaitReply) (ho : s.access.occupied = false)
    (w : WindowResult) : s.accessEnded w = s := by
  simp [State.accessEnded, h, ho]

theorem State.closeUnanswered_access (s : State) :
    s.closeUnanswered.access = { s.access with
      occupied := false
      state := if s.closeUnanswered.wantsLine = true then .gap else .idle } := by
  show ({ (s.closeWindow .noReply).access with
    state := if (s.closeWindow .noReply).wantsLine = true then .gap else .idle } : Access) = _
  rw [s.closeWindow_access]
  rfl

theorem State.closeUnanswered_controls (s : State) : Controls s s.closeUnanswered :=
  (s.closeWindow_controls _).trans (State.contendOrIdle_controls _)

section
variable {s : State} {i : Nat} {m : Message} {mark : Option Mark} (h : AwaitsReply s i m mark)
include h

theorem AwaitsReply.access : s.access.state = .awaitReply := h.1

theorem AwaitsReply.inFlight : s.engine.inFlight = .message i := h.2.1

theorem AwaitsReply.slot : (s.slot i).msg = some m := h.2.2.1

theorem AwaitsReply.message : m.state = .awaitReply mark := h.2.2.2

theorem AwaitsReply.live : m.Live := by
  intro r hr
  rw [h.message] at hr
  cases hr

/-- R108: the close settles the message in flight, and nothing is in flight then. -/
theorem AwaitsReply.closeUnanswered_eq : s.closeUnanswered =
    ((s.settleNoReply i m mark).clearInFlight.modAccess fun a => { a with occupied := false }).contendOrIdle := by
  rw [State.closeUnanswered, State.closeWindow, State.settleWindow, h.inFlight]
  simp [h.slot, h.message, State.settleMessage]

theorem AwaitsReply.closeUnanswered_outbound : s.closeUnanswered.outbound = (s.settleNoReply i m mark).outbound := by
  rw [h.closeUnanswered_eq]
  rfl

theorem AwaitsReply.closeUnanswered_outcomes : s.closeUnanswered.outcomes = (s.settleNoReply i m mark).outcomes := by
  rw [h.closeUnanswered_eq]
  rfl

theorem AwaitsReply.closeUnanswered_peers : s.closeUnanswered.peers = (s.settleNoReply i m mark).peers := by
  rw [h.closeUnanswered_eq]
  rfl

theorem AwaitsReply.closeUnanswered_owed : s.closeUnanswered.owedOutcomes = (s.settleNoReply i m mark).owedOutcomes :=
  State.owedOutcomes_congr h.closeUnanswered_outcomes fun j _ =>
    State.doneOutcome_congr (State.slot_congr h.closeUnanswered_outbound j)

/-- A message awaiting its reply does not wait to be resolved (R93). -/
theorem AwaitsReply.bulkOutcome_eq_none (r : MsgResult) : s.bulkOutcome r i = none := by
  simp [State.bulkOutcome, h.slot, h.message]

end

/-- Besides what the settlement changes the close changes the access controller and the item in flight. -/
theorem AwaitsReply.closeUnanswered_unchanged {s : State} {i : Nat} {m : Message} {mark : Option Mark}
    (h : AwaitsReply s i m mark) {changed : List Block} (hc : UnchangedBut changed s (s.settleNoReply i m mark)) :
    UnchangedBut (changed ++ [.engine, .access]) s s.closeUnanswered := by
  rw [h.closeUnanswered_eq]
  refine UnchangedBut.mono (((hc.append (State.modEngine_unchanged _ _)).append (State.modAccess_unchanged _ _)).append
    (State.modAccess_unchanged _ _)) ?_
  simp

/-! ### Below the attempt limit -/

/-- R111, R113: the message goes to its retry wait. -/
theorem State.settles_retry {s : State} {m : Message} (limit : m.attempts ≠ s.station.config.attemptLimit) (i : Nat) :
    s.settleNoReply i m none =
      s.modMessage i fun m => { m with state := .retryWait (s.station.config.retryMs m.attempts) } := by
  rw [State.settleNoReply, if_neg limit]

section
variable {s : State} {i : Nat} {m : Message} (h : AwaitsReply s i m none)
  (limit : m.attempts ≠ s.station.config.attemptLimit)
include h limit

theorem AwaitsReply.retry_unchanged : UnchangedBut [.outbound, .engine, .access] s s.closeUnanswered := by
  refine h.closeUnanswered_unchanged (changed := [.outbound]) ?_
  rw [State.settles_retry limit]
  exact s.modMessage_unchanged i _

theorem AwaitsReply.retry_slot : s.closeUnanswered.slot i = ⟨(s.slot i).tag,
    some { m with state := .retryWait (s.station.config.retryMs m.attempts) }⟩ := by
  rw [State.slot_congr h.closeUnanswered_outbound, State.settles_retry limit, State.slot_modMessage_self, h.slot]
  rfl

theorem AwaitsReply.retry_slot_other {j : Nat} (hne : j ≠ i) : s.closeUnanswered.slot j = s.slot j := by
  rw [State.slot_congr h.closeUnanswered_outbound, State.settles_retry limit, State.slot_modMessage_other _ _ _ _ hne]

theorem AwaitsReply.retry_queue (d : Nat) : s.closeUnanswered.queue d = s.queue d := by
  rw [State.queue_congr h.closeUnanswered_outbound, State.settles_retry limit, State.queue_modMessage]

/-- A retry resolves nothing. -/
theorem AwaitsReply.retry_owed : s.closeUnanswered.owedOutcomes = s.owedOutcomes := by
  have outcomes : s.closeUnanswered.outcomes = s.outcomes := by
    rw [h.closeUnanswered_outcomes, State.settles_retry limit, State.modMessage_outcomes]
  refine State.owedOutcomes_congr outcomes fun j _ => ?_
  by_cases hji : j = i
  · subst hji
    simp [State.doneOutcome, h.retry_slot limit, h.slot, h.message]
  · exact State.doneOutcome_congr (h.retry_slot_other limit hji)

end

/-! ### With a mark -/

section
variable {s : State} {i : Nat} {m : Message} {k : Mark} (h : AwaitsReply s i m (some k)) (hs : StoreConsistent s)
include h hs

/-- R111, R116: the message is resolved with its mark. -/
theorem AwaitsReply.marked_owed :
    s.closeUnanswered.owedOutcomes = s.owedOutcomes ++ [s.outcomeOf k.result i m] := by
  rw [h.closeUnanswered_owed]
  exact State.resolve_owed h.slot h.live k.result hs

theorem AwaitsReply.marked_queue (d : Nat) :
    s.closeUnanswered.queue d = (s.queue d).filter fun j => j ≠ i := by
  rw [State.queue_congr h.closeUnanswered_outbound]
  exact State.resolve_queue h.slot h.live k.result hs d

omit hs in
theorem AwaitsReply.marked_unchanged :
    UnchangedBut [.station, .outbound, .outcomes, .engine, .access] s s.closeUnanswered :=
  h.closeUnanswered_unchanged (s.resolve_moves i k.result).unchanged

omit hs in
theorem AwaitsReply.marked_slot_other {j : Nat} (hne : j ≠ i) : s.closeUnanswered.slot j = s.slot j := by
  rw [State.slot_congr h.closeUnanswered_outbound]
  exact s.resolve_slot_other i k.result hne

end

/-! ### At the attempt limit -/

/-- R111, R69: the message is resolved NO_ACK and its destination is SILENT. -/
theorem State.settles_exhausted {s : State} {m : Message} (limit : m.attempts = s.station.config.attemptLimit)
    (i : Nat) : s.settleNoReply i m none = (s.resolve i .noAck).makeSilent m.dest := by
  rw [State.settleNoReply, if_pos limit]

section
variable {s : State} {i : Nat} {m : Message} (h : AwaitsReply s i m none) (hs : StoreConsistent s)
  (limit : m.attempts = s.station.config.attemptLimit)
include h hs

/-- The message in flight is the head of its queue, so every other message there is QUEUED and waits (R84, R93). -/
theorem AwaitsReply.others_wait {j : Nat} (hj : j ∈ s.queue m.dest) (hne : j ≠ i) (r : MsgResult) :
    s.bulkOutcome r j ≠ none := by
  have queued := hs.isQueued_of_ne (hs.mem_queue h.slot h.live) (by simp [State.isQueued, h.slot, h.message]) hj hne
  unfold State.isQueued at queued
  unfold State.bulkOutcome
  cases hmj : (s.slot j).msg with
  | none => simp [hmj] at queued
  | some mj =>
    have : mj.state = .queued := by simpa [hmj] using queued
    simp [this]

/-- After the resolution of the message in flight the others of its queue wait as before. -/
theorem AwaitsReply.resolved_bulkOutcomes (r r' : MsgResult) :
    (s.resolve i r).bulkOutcomes r' m.dest = s.bulkOutcomes r' m.dest := by
  rw [State.bulkOutcomes, State.resolve_queue h.slot h.live r hs, List.filterMap_filter]
  refine List.filterMap_congr fun j _ => ?_
  by_cases hji : j = i
  · simp [hji, h.bulkOutcome_eq_none]
  · simpa [hji] using State.bulkOutcome_congr (s.resolve_slot_other i r hji) r'

include limit

theorem AwaitsReply.exhausted_owed : s.closeUnanswered.owedOutcomes =
    s.owedOutcomes ++ s.outcomeOf .noAck i m :: s.bulkOutcomes .peerSilent m.dest := by
  rw [h.closeUnanswered_owed, State.settles_exhausted limit,
    State.makeSilent_owed (State.resolve_consistent h.slot h.live _ hs), State.resolve_owed h.slot h.live _ hs,
    h.resolved_bulkOutcomes hs, List.append_assoc]
  rfl

/-- R68: nothing is left for a peer that is SILENT. -/
theorem AwaitsReply.exhausted_queue_self : s.closeUnanswered.queue m.dest = [] := by
  rw [State.queue_congr h.closeUnanswered_outbound, State.settles_exhausted limit,
    State.makeSilent_queue_self (State.resolve_consistent h.slot h.live _ hs), List.filter_eq_nil_iff]
  intro j hj
  rw [State.resolve_queue h.slot h.live _ hs, List.mem_filter, decide_eq_true_eq] at hj
  obtain ⟨hj, hne⟩ := hj
  rw [State.bulkOutcome_congr (s.resolve_slot_other i _ hne)]
  simpa using h.others_wait hs hj hne _

theorem AwaitsReply.exhausted_queue_other {d : Nat} (hne : d ≠ m.dest) :
    s.closeUnanswered.queue d = s.queue d := by
  rw [State.queue_congr h.closeUnanswered_outbound, State.settles_exhausted limit,
    State.makeSilent_queue_other (State.resolve_consistent h.slot h.live _ hs) _ hne,
    State.resolve_queue h.slot h.live _ hs, List.filter_eq_self]
  intro j hj
  have : j ≠ i := fun hji => hs.notMem_queue (hs.mem_queue h.slot h.live) hne (hji ▸ hj)
  simpa using this

omit hs in
theorem AwaitsReply.exhausted_peer (a : Nat) :
    s.closeUnanswered.peer a = (s.modPeer m.dest PeerRecord.silenced).peer a := by
  rw [State.peer_congr h.closeUnanswered_peers, State.settles_exhausted limit, State.makeSilent_peer]
  exact State.peer_congr (State.modPeer_peers_congr (s.resolve_moves i .noAck).2.1 _ _) a

end

end Sys2Proof.Machine
end

/-! SUPPORT. A valid frame that is heard (R12 to R15): its source, and all it can change where it is neither an address
conflict nor the departure of its sender. -/

section
namespace Sys2Proof.Machine

/-! ### The source of a valid frame -/

/-- R13: a frame that passes the field checks has a source from 1 to 30. -/
theorem fieldCheck_source {b0 b1 b2 seq len : Byte} {payload : List Byte} {f : Frame}
    (h : fieldCheck b0 b1 b2 seq len payload = some f) : 1 ≤ f.source ∧ f.source ≤ 30 := by
  unfold fieldCheck at h
  dsimp only at h
  split at h
  · cases h
  split at h
  · cases h
  split at h
  · cases h
  next _ _ inRange =>
  have field : f.source = (b1.extractLsb' 0 5).toNat := by
    split at h
    case h_5 =>
      split at h
      · cases h
      · obtain ⟨reason, -, rfl⟩ := Option.map_eq_some_iff.mp h
        rfl
    case h_6 => cases h
    all_goals
      split at h
      · cases h
      · cases h
        rfl
  have := (b1.extractLsb' 0 5).isLt
  omega

theorem Burst.found_source {b : Burst} {f : Frame} (h : b.found = .valid f) : 1 ≤ f.source ∧ f.source ≤ 30 := by
  unfold Burst.found at h
  dsimp only at h
  split_ifs at h
  split at h
  · cases h
  · next g hg =>
    cases h
    unfold parseBody at hg
    split at hg
    · exact fieldCheck_source hg
    · cases hg

theorem State.found_source {s : State} {rxd : Levels} {f : Frame} (h : s.found rxd = .valid f) :
    1 ≤ f.source ∧ f.source ≤ 30 := by
  unfold State.found at h
  cases hb : (s.line.hearAll (rxd ++ closingIdle)).burst with
  | none => simp [hb] at h
  | some b => exact Burst.found_source (by simpa [hb] using h)

/-! ### What a frame can change -/

/-- All that taking a frame changes which is no conflict and no departure: the reply decided, the HOLD notice, peer
records, the inbound store and the counters. -/
def Files (s t : State) : Prop :=
  ∃ reply hold peers inbound counters,
    t = { s with
      access := { s.access with reply := reply }
      station := { s.station with notices := { s.station.notices with hold := hold } }
      peers := peers
      inbound := inbound
      counters := counters }

theorem Files.refl (s : State) : Files s s := ⟨_, _, _, _, _, rfl⟩

theorem Files.trans {s t u : State} : Files s t → Files t u → Files s u
  | ⟨_, _, _, _, _, h⟩, ⟨_, _, _, _, _, k⟩ => ⟨_, _, _, _, _, by rw [k, h]⟩

theorem State.count_files (s : State) (k : CounterName) : Files s (s.count k) := ⟨_, _, _, _, _, rfl⟩

theorem State.modPeer_files (s : State) (a : Nat) (f : PeerRecord → PeerRecord) : Files s (s.modPeer a f) := by
  unfold State.modPeer
  split
  exacts [.refl s, ⟨_, _, _, _, _, rfl⟩]

theorem State.setH_files (s : State) (h : Bool) : Files s (s.setH h) := by
  unfold State.setH
  split
  exacts [.refl s, ⟨_, _, _, _, _, rfl⟩]

theorem State.listRecord_files (s : State) (r : Received) : Files s (s.listRecord r) := ⟨_, _, _, _, _, rfl⟩

theorem State.answer_files (s : State) (kind : FrameKind) (f : Frame) : Files s (s.answer kind f) := by
  unfold State.answer State.modAccess
  dsimp only
  split
  exacts [.refl s, ⟨_, _, _, _, _, rfl⟩]

theorem State.receiveData_files (s : State) (f : Frame) : Files s (s.receiveData f) := by
  unfold State.receiveData
  split_ifs
  · exact (s.count_files _).trans (State.answer_files _ _ _)
  · exact (s.count_files _).trans (State.answer_files _ _ _)
  · have appended : Files s (s.appendData f) :=
      ((s.listRecord_files _).trans (State.modPeer_files _ _ _)).trans (State.setH_files _ _)
    exact appended.trans (State.answer_files _ _ _)
  · exact .refl s

theorem State.receiveDatagram_files (s : State) (f : Frame) : Files s (s.receiveDatagram f) := by
  unfold State.receiveDatagram
  split_ifs
  · exact s.count_files _
  · exact (s.listRecord_files _).trans (State.setH_files _ _)
  · exact .refl s

theorem State.route_files (s : State) {f : Frame} (h : f.kind ≠ .notice .leave) : Files s (s.route f) := by
  unfold State.route
  split
  · split_ifs
    exacts [s.receiveData_files f, .refl s]
  · split_ifs
    exacts [s.receiveDatagram_files f, .refl s]
  · split_ifs
    exacts [s.count_files _, .refl s]
  · split_ifs
    exacts [s.count_files _, .refl s]
  · next hleave => exact absurd hleave h
  · exact .refl s

theorem Files.unchanged {s t : State} (h : Files s t) :
    UnchangedBut [.access, .station, .peers, .inbound, .counters] s t := by
  obtain ⟨reply, hold, peers, inbound, counters, rfl⟩ := h
  intro b hb
  cases b
  case access | station | peers | inbound | counters => exact absurd (by decide) hb
  all_goals rfl

section
variable {s t : State} (h : Files s t)
include h

theorem Files.outbound : t.outbound = s.outbound := by
  obtain ⟨_, _, _, _, _, rfl⟩ := h; rfl
theorem Files.outcomes : t.outcomes = s.outcomes := by
  obtain ⟨_, _, _, _, _, rfl⟩ := h; rfl
theorem Files.occupied : t.access.occupied = s.access.occupied := by
  obtain ⟨_, _, _, _, _, rfl⟩ := h; rfl
theorem Files.config : t.station.config = s.station.config := by
  obtain ⟨_, _, _, _, _, rfl⟩ := h; rfl
theorem Files.address : t.station.address = s.station.address := by
  obtain ⟨_, _, _, _, _, rfl⟩ := h; rfl
theorem Files.conflict : t.station.conflict = s.station.conflict := by
  obtain ⟨_, _, _, _, _, rfl⟩ := h; rfl

end

/-- The window a message awaits its reply in stands while frames are filed. -/
theorem Files.awaitsReply {s t : State} (h : Files s t) {i : Nat} {m : Message} {mark : Option Mark}
    (k : AwaitsReply s i m mark) : AwaitsReply t i m mark := by
  obtain ⟨reply, hold, peers, inbound, counters, rfl⟩ := h
  exact k

theorem State.setH_peers (s : State) (h : Bool) : (s.setH h).peers = s.peers := by
  unfold State.setH
  split <;> rfl

theorem State.receiveDatagram_peers (s : State) (f : Frame) : (s.receiveDatagram f).peers = s.peers := by
  unfold State.receiveDatagram
  split_ifs
  exacts [rfl, State.setH_peers _ _, rfl]

/-- Of its sender's record a DATA frame changes the last accepted sequence only (R120). -/
theorem State.receiveData_peer (s : State) {f : Frame} (hf : 1 ≤ f.source ∧ f.source ≤ 30) :
    ∃ last, (s.receiveData f).peer f.source = { s.peer f.source with lastAccepted := last } := by
  unfold State.receiveData
  split_ifs
  · exact ⟨_, rfl⟩
  · exact ⟨_, rfl⟩
  · refine ⟨some f.seq, ?_⟩
    have appended : (s.appendData f).peers =
        ((s.listRecord ⟨f.source, .acked, false, f.payload⟩).modPeer f.source
          fun p => { p with lastAccepted := some f.seq }).peers := State.setH_peers _ _
    show (s.appendData f).peer f.source = _
    rw [State.peer_congr appended, State.peer_modPeer_self _ _ _ (by omega) hf.2]
    rfl
  · exact ⟨_, rfl⟩

/-- Of its sender's record a frame that is routed changes the last accepted sequence only (R15, R120). -/
theorem State.route_peer (s : State) {f : Frame} (h : f.kind ≠ .notice .leave)
    (hf : 1 ≤ f.source ∧ f.source ≤ 30) :
    ∃ last, (s.route f).peer f.source = { s.peer f.source with lastAccepted := last } := by
  unfold State.route
  split
  · split_ifs
    exacts [s.receiveData_peer hf, ⟨_, rfl⟩]
  · split_ifs
    exacts [⟨_, State.peer_congr (s.receiveDatagram_peers f) _⟩, ⟨_, rfl⟩]
  · split_ifs <;> exact ⟨_, rfl⟩
  · split_ifs <;> exact ⟨_, rfl⟩
  · next hleave => exact absurd hleave h
  · exact ⟨_, rfl⟩

/-- R112: an ACK or REFUSE addressed here that is no window's reply is a stray one. -/
theorem State.route_counters {s : State} {f : Frame} (hk : f.kind ∈ [.ack, .refuse])
    (hw : s.windowReply f = .noReply) :
    (s.route f).counters = if f.dest = s.station.address then s.counters.bump .strayReplies else s.counters := by
  rcases List.mem_pair.mp hk with hk | hk <;> simp only [State.route, hk, hw, and_true] <;> split <;> rfl

/-! ### The stages of taking a valid frame -/

/-- R64: the sender's record takes in what the frame says of it. -/
def State.learn (s : State) (f : Frame) : State := s.modPeer f.source (PeerRecord.heard s.station.config f)

theorem State.learn_files (s : State) (f : Frame) : Files s (s.learn f) := s.modPeer_files _ _

theorem State.learn_peer (s : State) {f : Frame} (hf : 1 ≤ f.source ∧ f.source ≤ 30) :
    (s.learn f).peer f.source = (s.peer f.source).heard s.station.config f :=
  State.peer_modPeer_self s _ _ (by omega) hf.2

theorem State.learn_counters (s : State) (f : Frame) : (s.learn f).counters = s.counters := s.modPeer_counters _ _

theorem State.takeValid_other {s : State} {f : Frame} (h : f.source ≠ s.station.address) :
    s.takeValid f = (s.learn f).route f := if_neg h

end Sys2Proof.Machine
end

/-! SUPPORT. A frame that is heard in a reply window and is not its reply (R108, R111, R112): what is there to settle
once the frame is routed. -/

section
namespace Sys2Proof.Machine

/-! ### The close, block by block -/

theorem Settles.unchanged {s t : State} (h : Settles s t) :
    UnchangedBut [.station, .peers, .outbound, .engine, .outcomes] s t := by
  intro b hb
  cases b
  case station | peers | outbound | engine | outcomes => exact absurd (by decide) hb
  exacts [h.pins, h.line, h.access, h.inbound, h.counters, h.link, h.generator, h.ticks, h.pending]

theorem State.settleNoReply_engine (s : State) (i : Nat) (m : Message) (mark : Option Mark) :
    (s.settleNoReply i m mark).engine = s.engine := by
  unfold State.settleNoReply
  split
  · exact (s.resolve_moves i _).2.2
  · split
    · exact Eq.trans (State.makeSilent_unchanged _ _ .engine (by decide)) (s.resolve_moves i _).2.2
    · exact s.modMessage_engine i _

/-- The close of a window touches no peer but the destination of its message. -/
theorem State.settleNoReply_peer (s : State) (i : Nat) (m : Message) (mark : Option Mark) {a : Nat}
    (hne : a ≠ m.dest) : (s.settleNoReply i m mark).peer a = s.peer a := by
  unfold State.settleNoReply
  split
  · exact State.peer_congr (s.resolve_moves i _).2.1 a
  · split
    · rw [State.makeSilent_peer, State.peer_modPeer_other _ _ _ _ hne]
      exact State.peer_congr (s.resolve_moves i _).2.1 a
    · exact State.peer_congr (s.modMessage_peers i _) a

/-- A window closed with no reply changes what settling changes, and the access controller. -/
theorem State.closeUnanswered_unchanged (s : State) :
    UnchangedBut [.station, .peers, .outbound, .engine, .outcomes, .access] s s.closeUnanswered := by
  refine UnchangedBut.mono (((s.settleWindow_settles .noReply).unchanged.append
    (State.modAccess_unchanged _ _)).append (State.modAccess_unchanged _ _)) ?_
  decide

/-- Of the station only the LEAVE notice can change with the close of a window (R52, R117). -/
theorem State.closeUnanswered_conflict (s : State) :
    s.closeUnanswered.station.conflict = s.station.conflict := by
  show (s.settleWindow .noReply).station.conflict = _
  rw [(s.settleWindow_settles .noReply).station]

section
variable {s : State} {i : Nat} {m : Message} {mark : Option Mark} (h : AwaitsReply s i m mark)
include h

theorem AwaitsReply.closeUnanswered_engine : s.closeUnanswered.engine = { s.engine with inFlight := .none } := by
  rw [h.closeUnanswered_eq]
  show ({ (s.settleNoReply i m mark).engine with inFlight := .none } : Engine) = _
  rw [s.settleNoReply_engine]

theorem AwaitsReply.closeUnanswered_peer {a : Nat} (hne : a ≠ m.dest) : s.closeUnanswered.peer a = s.peer a :=
  (State.peer_congr h.closeUnanswered_peers a).trans (s.settleNoReply_peer i m mark hne)

/-- A message awaiting its reply, by its mark. -/
theorem AwaitsReply.message_eq : m = { m with state := .awaitReply mark } := by
  rw [← h.message]

end

/-! ### The frame is routed first -/

/-- The frame is the LEAVE notice of another station (R67). -/
abbrev Frame.Departs (f : Frame) (s : State) : Prop := f.kind = .notice .leave ∧ f.source ≠ s.station.address

/-- The outcomes of the messages a departure resolves (R67, R68). -/
abbrev State.goneWith (s : State) (f : Frame) : List OutcomeRecord :=
  if f.Departs s then s.bulkOutcomes .peerSilent f.source else []

/-- The mark of the message in flight once the frame is routed: the departure of its destination marks it (R90). -/
abbrev State.markAfter (s : State) (f : Frame) (m : Message) (mark : Option Mark) : Option Mark :=
  if f.Departs s ∧ f.source = m.dest then some (mark.getD .peerSilent) else mark

/-- The frame is the reply the window awaits (R108). -/
abbrev Frame.Replies (f : Frame) (s : State) (m : Message) : Prop :=
  f.kind ∈ [.ack, .refuse] ∧ f.dest = s.station.address ∧ f.source ≠ s.station.address ∧ f.source = m.dest ∧
    m.seq = some f.seq

/-- What taking the frame `f` in the reply window of `m` leaves of the store for the close of the window. -/
structure StoreRouted (f : Frame) (i : Nat) (m : Message) (mark : Option Mark) (s u : State) : Prop where
  awaits : AwaitsReply u i { m with state := .awaitReply (s.markAfter f m mark) } (s.markAfter f m mark)
  consistent : StoreConsistent u
  owed : u.owedOutcomes = s.owedOutcomes ++ s.goneWith f
  tag : (u.slot i).tag = (s.slot i).tag
  bulk : s.markAfter f m mark = none → u.bulkOutcomes .peerSilent m.dest = s.bulkOutcomes .peerSilent m.dest

/-- What taking the frame `f` in the reply window of `m` leaves for the close of the window. -/
structure Routed (f : Frame) (i : Nat) (m : Message) (mark : Option Mark) (s u : State) : Prop where
  store : StoreRouted f i m mark s u
  unchanged : UnchangedBut [.access, .station, .peers, .outbound, .inbound, .outcomes, .counters] s u
  occupied : u.access.occupied = s.access.occupied
  config : u.station.config = s.station.config
  conflict : u.station.conflict = (s.station.conflict || f.source = s.station.address)
  counters : f.kind ∈ [.ack, .refuse] → u.counters =
    if f.source = s.station.address then s.counters.bump .addressConflicts
    else if f.dest = s.station.address then s.counters.bump .strayReplies
    else s.counters
  peer : f.source ≠ s.station.address → f.Departs s ∨
    ∃ last, u.peer f.source = { (s.peer f.source).heard s.station.config f with lastAccepted := last }

/-- A frame that does not answer the message in flight is no reply to its window (R108). -/
theorem State.windowReply_eq_noReply {s : State} {i : Nat} {m : Message} {f : Frame}
    (hflight : s.engine.inFlight = .message i) (hslot : (s.slot i).msg = some m) (hn : ¬ f.Replies s m) :
    s.windowReply f = .noReply := by
  unfold State.windowReply
  rw [hflight]
  dsimp only
  rw [hslot]
  dsimp only
  split_ifs with hopen hreply
  · have other : f.kind ∉ [.ack, .refuse] := fun hk => hn ⟨hk, hreply⟩
    cases hk : f.kind <;> simp_all
  · rfl
  · rfl

section
variable {s : State} {f : Frame} {i : Nat} {m : Message} {mark : Option Mark} (h : AwaitsReply s i m mark)
  (hs : StoreConsistent s)
include h hs

/-- A frame that leaves the store alone leaves the message in flight to settle as it was. -/
theorem StoreRouted.of_sameStore {u : State} (hd : ¬ f.Departs s) (ha : AwaitsReply u i m mark)
    (hb : u.outbound = s.outbound) (ho : u.outcomes = s.outcomes) : StoreRouted f i m mark s u := by
  have slot := State.slot_congr hb
  have keeps : s.markAfter f m mark = mark := if_neg fun hm => hd hm.1
  have gone : s.goneWith f = [] := if_neg hd
  refine ⟨?_, hs.of_blocks hb ho, ?_, by rw [slot], fun _ => ?_⟩
  · rw [keeps, ← h.message_eq]
    exact ha
  · rw [gone, List.append_nil]
    exact State.owedOutcomes_congr ho fun j _ => State.doneOutcome_congr (slot j)
  · exact State.bulkOutcomes_congr (State.queue_congr hb _) (fun j _ => slot j) _

/-- An address conflict outside JOINING: the conflict flag and its counter (R14, R46). -/
theorem Routed.of_conflict (hj : s.station.state ≠ .joining) (hsource : f.source = s.station.address) :
    Routed f i m mark s (s.takeValid f) := by
  have taken : s.takeValid f = (s.count .addressConflicts).modStation fun st => { st with conflict := true } :=
    (if_pos hsource).trans (State.addressConflict_elsewhere hj)
  rw [taken]
  refine ⟨.of_sameStore h hs (fun hd => hd.2 hsource) h rfl rfl, ?_, rfl, rfl, by simp [hsource], fun _ => ?_,
    fun hne => absurd hsource hne⟩
  · exact ((s.count_unchanged _).append (State.modStation_unchanged _ _)).mono (by decide)
  · rw [if_pos hsource]
    rfl

/-- A frame of another station that is neither its departure nor the reply (R15, R112). -/
theorem Routed.of_filed (hsource : f.source ≠ s.station.address) (hkind : f.kind ≠ .notice .leave)
    (hf : 1 ≤ f.source ∧ f.source ≤ 30) (hn : ¬ f.Replies s m) : Routed f i m mark s (s.takeValid f) := by
  rw [State.takeValid_other hsource]
  have files := (s.learn_files f).trans (State.route_files _ hkind)
  have departs : ¬ f.Departs s := fun hd => hkind hd.1
  refine ⟨.of_sameStore h hs departs (files.awaitsReply h) files.outbound files.outcomes,
    files.unchanged.mono (by decide), files.occupied, files.config, ?_, fun hk => ?_, fun _ => .inr ?_⟩
  · rw [files.conflict]
    simp [hsource]
  · have learned := (s.learn_files f).awaitsReply h
    have noReply : ¬ f.Replies (s.learn f) m := by rwa [Frame.Replies, (s.learn_files f).address]
    rw [if_neg hsource, State.route_counters hk (State.windowReply_eq_noReply learned.inFlight learned.slot noReply),
      (s.learn_files f).address, s.learn_counters]
  · rw [← s.learn_peer hf]
    exact State.route_peer _ hkind hf

/-- The departure of another station: its messages that wait are resolved, and one in flight to it is marked (R67,
R68, R90). -/
theorem StoreRouted.of_departure (hd : f.Departs s) : StoreRouted f i m mark s (s.departure f.source) := by
  have access : (s.departure f.source).access = s.access := s.departure_unchanged f.source .access (by decide)
  have engine : (s.departure f.source).engine = s.engine := s.departure_unchanged f.source .engine (by decide)
  have outbound : (s.departure f.source).outbound = (s.makeSilent f.source).outbound := State.modPeer_outbound _ _ _
  have outcomes : (s.departure f.source).outcomes = (s.makeSilent f.source).outcomes := State.modPeer_outcomes _ _ _
  have slot := State.slot_congr outbound
  have inQueue := hs.mem_queue h.slot h.live
  have flying : (s.departure f.source).slot i =
      ⟨(s.slot i).tag, some { m with state := .awaitReply (s.markAfter f m mark) }⟩ := by
    rw [slot]
    by_cases hdest : f.source = m.dest
    · have marked : s.markAfter f m mark = some (mark.getD .peerSilent) := if_pos ⟨hd, hdest⟩
      rw [marked, State.makeSilent_slot_marked hs _ (hdest ▸ inQueue) (h.bulkOutcome_eq_none _)]
      simp [Slot.withMark, Message.withMark, h.slot, h.message]
    · have stays : s.markAfter f m mark = mark := if_neg fun hc => hdest hc.2
      rw [stays, ← h.message_eq, ← h.slot]
      exact State.makeSilent_slot_other hs _ (hs.notMem_queue inQueue hdest)
  refine ⟨⟨access ▸ h.access, engine ▸ h.inFlight, by rw [flying], rfl⟩,
    (State.makeSilent_consistent hs f.source).of_blocks outbound outcomes, ?_, by rw [flying], fun hnone => ?_⟩
  · have owed : (s.departure f.source).owedOutcomes = (s.makeSilent f.source).owedOutcomes :=
      State.owedOutcomes_congr outcomes fun j _ => State.doneOutcome_congr (slot j)
    rw [owed, State.makeSilent_owed hs, State.goneWith, if_pos hd]
  · have hdest : m.dest ≠ f.source := fun hc => by
      rw [State.markAfter, if_pos ⟨hd, hc.symm⟩] at hnone
      cases hnone
    refine State.bulkOutcomes_congr ?_ (fun j hj => ?_) _
    · rw [State.queue_congr outbound, State.makeSilent_queue_other hs _ hdest]
    · rw [slot]
      exact State.makeSilent_slot_other hs _ (hs.notMem_queue hj hdest.symm)

end

/-- What a frame leaves of the store it leaves of any state with the same store and address. -/
theorem StoreRouted.of_files {f : Frame} {i : Nat} {m : Message} {mark : Option Mark} {s s' u : State}
    (h : StoreRouted f i m mark s' u) (files : Files s s') : StoreRouted f i m mark s u := by
  have slot := State.slot_congr files.outbound
  have bulk (d : Nat) : s'.bulkOutcomes .peerSilent d = s.bulkOutcomes .peerSilent d :=
    State.bulkOutcomes_congr (State.queue_congr files.outbound d) (fun j _ => slot j) _
  have owed : s'.owedOutcomes = s.owedOutcomes :=
    State.owedOutcomes_congr files.outcomes fun j _ => State.doneOutcome_congr (slot j)
  have mark : s'.markAfter f m mark = s.markAfter f m mark := by
    simp only [State.markAfter, Frame.Departs, files.address]
  have gone : s'.goneWith f = s.goneWith f := by
    simp only [State.goneWith, Frame.Departs, files.address, bulk]
  exact ⟨mark ▸ h.awaits, h.consistent, by rw [h.owed, owed, gone], by rw [h.tag, slot],
    fun hn => (h.bulk (mark.trans hn)).trans (bulk _)⟩

section
variable {s : State} {f : Frame} {i : Nat} {m : Message} {mark : Option Mark} (h : AwaitsReply s i m mark)
  (hs : StoreConsistent s)
include h hs

/-- The LEAVE notice of another station (R15, R67). -/
theorem Routed.of_departure (hd : f.Departs s) : Routed f i m mark s (s.takeValid f) := by
  obtain ⟨hkind, hsource⟩ := id hd
  have learned := s.learn_files f
  have taken : s.takeValid f = (s.learn f).departure f.source := by
    rw [State.takeValid_other hsource, State.route, hkind]
  have store : StoreRouted f i m mark (s.learn f) (s.takeValid f) := by
    rw [taken]
    refine .of_departure (learned.awaitsReply h) (hs.of_blocks learned.outbound learned.outcomes) ?_
    rwa [Frame.Departs, learned.address]
  have unchanged := learned.unchanged.append ((s.learn f).departure_unchanged f.source)
  have station := ((s.learn f).departure_settles f.source).station
  rw [← taken] at unchanged station
  refine ⟨store.of_files learned, unchanged.mono (by decide), ?_, by rw [station, learned.config], ?_, fun hk => ?_,
    fun _ => .inl hd⟩
  · rw [taken, ((s.learn f).departure_settles f.source).access, learned.occupied]
  · rw [station, learned.conflict]
    simp [hsource]
  · simp [hkind] at hk

/-- Whatever valid frame ends the burst outside JOINING, the reply apart. -/
theorem State.takeValid_routed (hj : s.station.state ≠ .joining) (hf : 1 ≤ f.source ∧ f.source ≤ 30)
    (hn : ¬ f.Replies s m) : Routed f i m mark s (s.takeValid f) := by
  by_cases hsource : f.source = s.station.address
  · exact .of_conflict h hs hj hsource
  · by_cases hkind : f.kind = .notice .leave
    · exact .of_departure h hs ⟨hkind, hsource⟩
    · exact .of_filed h hs hsource hkind hf hn

end

end Sys2Proof.Machine
end

/-! SUPPORT. The end of a burst in a reply window (R31, R32, R108, R111), and the statement on bursts that are no
frame. -/

section
namespace Sys2Proof.Machine

/-! ### The end of a burst -/

theorem State.occupyWindow_unchanged (s : State) (rxd : Levels) : UnchangedBut [.access] s (s.occupyWindow rxd) :=
  s.modAccess_unchanged _

/-- R31: when a burst's end finds the reply window occupied. -/
theorem windowOccupied_iff {s : State} (h : s.access.state = .awaitReply) (rxd : Levels) :
    WindowOccupied s rxd ↔ (s.occupyWindow rxd).access.occupied = true := by
  rw [State.occupyWindow_access h, Bool.or_eq_true, Line.activeIn_iff]
  rfl

/-- R31: with no activity the end of a burst leaves the reply window unoccupied. -/
theorem State.occupyWindow_of_not_occupied {s : State} (h : s.access.state = .awaitReply) {rxd : Levels}
    (ho : ¬ WindowOccupied s rxd) : s.occupyWindow rxd = s := by
  rw [windowOccupied_iff h, State.occupyWindow_access h, Bool.not_eq_true, Bool.or_eq_false_iff] at ho
  obtain ⟨-, hactive⟩ := ho
  unfold State.occupyWindow State.modAccess
  simp [hactive]

/-- A burst's end that is not heard as a frame: it was not heard at all, or it was empty or discarded (R6, R12). -/
def State.unframed (s : State) (b : Burst) (rxd : Levels) : Prop :=
  s.hears b = false ∨ s.found rxd = .noFrame ∨ ∃ k, s.found rxd = .discarded k

/-- The counters after a burst that is no frame: a heard one that validation discards counts once (R12). -/
def State.countedBurst (s : State) (b : Burst) (found : Found) : Counters :=
  if s.hears b = true then
    match found with
    | .discarded k => s.counters.bump k
    | _ => s.counters
  else s.counters

/-- A burst that is no frame changes its counter, and the access controller takes its end (R6, R12). -/
theorem State.endBurst_unframed {s : State} {b : Burst} {found : Found}
    (h : s.hears b = false ∨ found = .noFrame ∨ ∃ k, found = .discarded k) :
    s.endBurst b found =
      (s.lineEnded.modCounters fun _ => s.countedBurst b found).accessEnded .noReply := by
  unfold State.countedBurst
  cases hb : s.hears b with
  | false => exact State.endBurst_unheard hb found
  | true =>
    rw [State.endBurst_heard hb]
    rcases h with h | rfl | ⟨k, rfl⟩
    · rw [hb] at h
      cases h
    · rfl
    · rfl

/-- The state in which the access controller takes the end of a burst that is no frame. -/
def State.burstCounted (s : State) (b : Burst) (rxd : Levels) : State :=
  (s.occupyWindow rxd).lineEnded.modCounters fun _ => s.countedBurst b (s.found rxd)

theorem State.burstCounted_unchanged (s : State) (b : Burst) (rxd : Levels) :
    UnchangedBut [.access, .line, .counters] s (s.burstCounted b rxd) :=
  (((s.occupyWindow_unchanged rxd).append (State.lineEnded_unchanged _)).append
    (State.modCounters_unchanged _ _)).mono (by decide)

section
variable {s : State} {b : Burst} (hde : s.de = false) (hb : s.line.burst = some b) (rxd : Levels)
include hde hb

theorem exec_endOfFrame_unframed (h : s.unframed b rxd) :
    exec (.endOfFrame rxd) s = .next ((s.burstCounted b rxd).accessEnded .noReply) := by
  rw [exec_endOfFrame_of_burst hde hb, State.endBurst_unframed (by exact h)]
  rfl

/-- Outside a reply window a burst that is no frame takes DEFER to GAP, and IDLE as the wants-line condition says. -/
theorem exec_endOfFrame_unframed_outside (h : s.unframed b rxd) (hw : s.access.state ≠ .awaitReply) :
    exec (.endOfFrame rxd) s = .next ((s.lineEnded.modCounters fun _ => s.countedBurst b (s.found rxd)).modAccess
      fun a => { a with state := afterBurst s.access.state s.wantsLine }) := by
  rw [exec_endOfFrame_unframed hde hb rxd h, State.burstCounted, State.occupyWindow_of_not_awaiting hw,
    State.accessEnded_outside (by exact hw) (State.lineIdle_of_ended rfl)]
  rfl

/-- R31: the end of the own DATA burst alone leaves the window as it is. -/
theorem exec_endOfFrame_unheard_unoccupied (h : s.hears b = false) (hw : s.access.state = .awaitReply)
    (ho : ¬ WindowOccupied s rxd) : exec (.endOfFrame rxd) s = .next s.lineEnded := by
  have vacant : s.access.occupied = false := by
    simpa [windowOccupied_iff hw, State.occupyWindow_of_not_occupied hw ho] using ho
  rw [exec_endOfFrame_of_burst hde hb, State.occupyWindow_of_not_occupied hw ho, State.endBurst_unheard h]
  exact congrArg _ (State.accessEnded_unoccupied (s := s.lineEnded) hw vacant _)

/-- R32: in an occupied window a burst that is no frame closes it with no reply. -/
theorem exec_endOfFrame_unframed_window (h : s.unframed b rxd) (hw : s.access.state = .awaitReply)
    (ho : WindowOccupied s rxd) : exec (.endOfFrame rxd) s = .next (s.burstCounted b rxd).closeUnanswered := by
  rw [exec_endOfFrame_unframed hde hb rxd h]
  exact congrArg _ (State.accessEnded_occupied hw ((windowOccupied_iff hw rxd).mp ho))

end

/-- A valid frame that is not the reply is routed, and then closes the window with no reply (R108, R112). -/
theorem exec_endOfFrame_routed {s : State} {rxd : Levels} {f : Frame} {i : Nat} {m : Message} {mark : Option Mark}
    (hf : HearsFrame s rxd f) (h : AwaitsReply s i m mark) (ho : WindowOccupied s rxd) (hs : StoreConsistent s)
    (hj : s.station.state ≠ .joining) (hn : ¬ f.Replies s m) :
    ∃ u, exec (.endOfFrame rxd) s = .next u.closeUnanswered ∧
      Routed f i m mark ((s.occupyWindow rxd).lineEnded.count .framesHeard) u := by
  obtain ⟨⟨hde, hears⟩, hfound⟩ := hf
  obtain ⟨b, hb, hhears⟩ := Option.map_eq_some_iff.mp hears
  have hw := h.access
  have routed := State.takeValid_routed (s := (s.occupyWindow rxd).lineEnded.count .framesHeard) (f := f) h
    (hs.of_blocks rfl rfl) hj (State.found_source hfound) hn
  refine ⟨_, ?_, routed⟩
  have occupied := routed.occupied.trans ((windowOccupied_iff hw rxd).mp ho)
  have noReply : (s.occupyWindow rxd).windowReply f = .noReply :=
    State.windowReply_eq_noReply (i := i) (m := m) h.inFlight h.slot hn
  rw [exec_endOfFrame_of_burst hde hb, State.endBurst_heard (by exact hhears), hfound, State.windowClose, noReply]
  exact congrArg _ (State.accessEnded_occupied routed.store.awaits.access occupied)

/-! ### The window closed by a routed frame -/

section
variable {s u : State} {f : Frame} {i : Nat} {m : Message} {mark : Option Mark} (r : Routed f i m mark s u)
include r

/-- The outcome of the message in flight is the one it has before the frame is routed. -/
theorem Routed.outcomeOf (result : MsgResult) (state : SlotState) :
    u.outcomeOf result i { m with state := state } = s.outcomeOf result i m := by
  simp only [State.outcomeOf, r.store.tag]

/-- Below the attempt limit, without a mark: the retry wait (R111, R113). -/
theorem Routed.retry (hnone : s.markAfter f m mark = none) (limit : m.attempts ≠ s.station.config.attemptLimit) :
    u.closeUnanswered.owedOutcomes = s.owedOutcomes ++ s.goneWith f ∧
      u.closeUnanswered.slot i = ⟨(s.slot i).tag,
        some { m with state := .retryWait (s.station.config.retryMs m.attempts) }⟩ := by
  have awaits := r.store.awaits
  rw [hnone] at awaits
  rw [← r.config] at limit ⊢
  rw [awaits.retry_owed limit, awaits.retry_slot limit, r.store.owed, r.store.tag]
  exact ⟨rfl, rfl⟩

/-- With a mark: the resolution with it (R111, R116). -/
theorem Routed.marked {k : Mark} (hk : s.markAfter f m mark = some k) :
    u.closeUnanswered.owedOutcomes = s.owedOutcomes ++ s.goneWith f ++ [s.outcomeOf k.result i m] := by
  have awaits := r.store.awaits
  rw [hk] at awaits
  rw [awaits.marked_owed r.store.consistent, r.store.owed, r.outcomeOf]

/-- At the attempt limit, without a mark: NO_ACK, and the destination SILENT (R111, R69). -/
theorem Routed.exhausted (hnone : s.markAfter f m mark = none) (limit : m.attempts = s.station.config.attemptLimit) :
    u.closeUnanswered.owedOutcomes = s.owedOutcomes ++ s.goneWith f ++
      s.outcomeOf .noAck i m :: s.bulkOutcomes .peerSilent m.dest := by
  have awaits := r.store.awaits
  rw [hnone] at awaits
  rw [← r.config] at limit
  rw [awaits.exhausted_owed r.store.consistent limit, r.store.owed, r.outcomeOf, r.store.bulk hnone]

/-- R64, R120: of its sender's record a frame changes what it says of it, and the last accepted sequence. -/
theorem Routed.closes_peer (hsource : f.source ≠ s.station.address) (hdest : f.source ≠ m.dest) :
    f.Departs s ∨ u.closeUnanswered.peer f.source =
      { (s.peer f.source).heard s.station.config f with
        lastAccepted := (u.closeUnanswered.peer f.source).lastAccepted } := by
  refine (r.peer hsource).imp_right fun ⟨last, hlast⟩ => ?_
  rw [r.store.awaits.closeUnanswered_peer hdest, hlast]

end

/-- Settles O47: which bursts are heard; a burst that is no frame outside a reply window, in one that stays open, and in
one that it closes; a frame that closes one. -/
theorem discardedBurstsCountOnce : Obligations.DiscardedBurstsCountOnce := by
  unfold Obligations.DiscardedBurstsCountOnce
  refine ⟨State.hears_iff, fun s rxd b hde hb => ⟨fun hw k hheard hfound => ?_, fun hw hn => ?_, fun hw hn ho => ?_,
    fun i m mark h ho hn => ?_, fun i m mark f h ho hf hj hs hn => ?_⟩⟩
  · have counted : s.countedBurst b (s.found rxd) = s.counters.bump k := by
      simp [State.countedBurst, hheard, hfound]
    refine ⟨_, exec_endOfFrame_unframed_outside hde hb rxd (.inr (.inr ⟨k, hfound⟩)) hw, ?_, counted, rfl, rfl⟩
    exact ((s.lineEnded_unchanged.append (State.modCounters_unchanged _ _)).append
      (State.modAccess_unchanged _ _)).mono (by decide)
  · have counted : s.countedBurst b (s.found rxd) = s.counters := by
      rcases hn with hn | hn <;> simp [State.countedBurst, hn]
    refine ⟨_, exec_endOfFrame_unframed_outside hde hb rxd (hn.imp_right .inl) hw, ?_, rfl, rfl⟩
    rw [counted]
    exact (s.lineEnded_unchanged.append (State.modAccess_unchanged _ _)).mono (by decide)
  · exact ⟨_, exec_endOfFrame_unheard_unoccupied hde hb rxd hn hw ho, s.lineEnded_unchanged, rfl, rfl⟩
  · have waits : AwaitsReply (s.burstCounted b rxd) i m mark := h
    have same := s.burstCounted_unchanged b rxd
    have ended := exec_endOfFrame_unframed_window hde hb rxd hn h.access ho
    have closes := (s.burstCounted b rxd).closeUnanswered_controls
    have engine := waits.closeUnanswered_engine
    have access := congrArg Access.state (s.burstCounted b rxd).closeUnanswered_access
    refine ⟨?_, ?_, ?_⟩
    · rintro rfl limit
      exact ⟨_, ended, (same.append (waits.retry_unchanged limit)).mono (by decide), closes.counters, engine,
        waits.retry_slot limit, fun j => waits.retry_slot_other limit, waits.retry_queue limit, closes.line, access⟩
    · rintro k rfl hs
      have hu : StoreConsistent (s.burstCounted b rxd) := hs.of_blocks rfl rfl
      exact ⟨_, ended, (same.append waits.marked_unchanged).mono (by decide), closes.counters, engine,
        waits.marked_owed hu, waits.marked_queue hu, fun j => waits.marked_slot_other, closes.line, access⟩
    · rintro rfl limit hs hdest
      have hu : StoreConsistent (s.burstCounted b rxd) := hs.of_blocks rfl rfl
      have dest := (mem_destinations m.dest).mp (State.mem_destinations_of_mem_queue (hs.mem_queue h.slot h.live))
      refine ⟨_, ended, (same.append (State.closeUnanswered_unchanged _)).mono (by decide), closes.counters, engine,
        waits.exhausted_owed hu limit, waits.exhausted_queue_self hu limit,
        fun d => waits.exhausted_queue_other hu limit, ?_, fun a ha => ?_, closes.line, access⟩
      · exact (waits.exhausted_peer limit _).trans (State.peer_modPeer_self _ _ _ (by omega) hdest)
      · exact (waits.exhausted_peer limit a).trans (State.peer_modPeer_other _ _ _ _ ha)
  · obtain ⟨u, ended, routed⟩ := exec_endOfFrame_routed hf h ho hs hj hn
    have closes := u.closeUnanswered_controls
    have line : u.line = Line.ended := routed.unchanged .line (by decide)
    have engine : u.engine = s.engine := routed.unchanged .engine (by decide)
    have before : UnchangedBut [.access, .line, .counters] s ((s.occupyWindow rxd).lineEnded.count .framesHeard) :=
      (((s.occupyWindow_unchanged rxd).append (State.lineEnded_unchanged _)).append
        (State.count_unchanged _ _)).mono (by decide)
    refine ⟨_, ended, ?_, ?_, closes.line.trans line, ?_, ?_, ?_, fun hk => ?_, fun hsource hdest => ?_,
      routed.retry, fun k => routed.marked, fun hnone limit _ => routed.exhausted hnone limit⟩
    · exact ((before.append routed.unchanged).append u.closeUnanswered_unchanged).mono (by decide)
    · rw [routed.store.awaits.closeUnanswered_engine, engine]
    · rw [State.closeUnanswered_access]
    · rw [State.closeUnanswered_access]
    · exact u.closeUnanswered_conflict.trans routed.conflict
    · exact closes.counters.trans (routed.counters hk)
    · exact routed.closes_peer hsource hdest

end Sys2Proof.Machine
end

/-! SUPPORT. Invariants of a step: what every operation that a command is made of keeps, every step keeps. -/

section
namespace Sys2Proof.Machine

/-- Every operation that a command or the tick is made of keeps `inv`, in the states in which a command performs it.
The requests are named by their answers, since a request row and a transaction take them alike (R152). -/
structure OperationsKeep (inv : State → Prop) : Prop where
  surroundings : ∀ {s t : State}, UnchangedBut [.link, .pending] s t → inv s → inv t
  elapse : ∀ {s : State} (ms : Nat), inv s → inv (s.elapse ms)
  pinReset : ∀ {s : State} (straps : BitVec 5) (rxdMark : Bool), inv s →
    inv (s.resetWith ConfigRecord.default none straps rxdMark)
  restart : ∀ {s : State} (straps : BitVec 5) (rxdMark : Bool), inv s → inv (s.restart straps rxdMark)
  status : ∀ {s : State}, inv s → inv (answerStatus s).state
  configure : ∀ {s : State} (rate attempts retryBase beacon holdTime holdLevel resumeLevel mask : Byte), inv s →
    inv (answerConfigure rate attempts retryBase beacon holdTime holdLevel resumeLevel mask s).state
  join : ∀ {s : State}, inv s → inv (answerJoin s).state
  leave : ∀ {s : State} (mode : Byte), inv s → inv (answerLeave mode s).state
  post : ∀ {s : State} (dest cls length : Byte) (payload : List Byte), inv s →
    inv (answerPost dest cls length payload s).state
  cancel : ∀ {s : State} (slot tag : Byte), inv s → inv (answerCancel slot tag s).state
  fetch : ∀ {s : State}, inv s → inv (answerFetch s).state
  takeOutcomes : ∀ {s : State} (max : Byte), inv s → inv (answerTakeOutcomes max s).state
  readCounters : ∀ {s : State} (clear : Byte), inv s → inv (answerReadCounters clear s).state
  beginActivity : ∀ {s : State} (rxd : Levels), inv s → inv (s.beginActivity rxd)
  endOfFrame : ∀ {s : State} (rxd : Levels), s.de = false → inv s → inv (s.endOfFrame rxd)
  completeGap : ∀ {s : State}, s.access.state = .gap → inv s → inv s.completeGap
  reportIdle : ∀ {s : State} (ct : Nat), inv s → inv (s.reportIdle ct)
  win : ∀ {s : State}, s.access.state = .draw → inv s → inv s.win
  completeFrame : ∀ {s : State} {f : Frame} (rxd : Levels), Drives s .sending f → inv s →
    inv (s.completeFrame (s.line.compare f.bytes rxd).1 f)
  collide : ∀ {s : State} {f : Frame} (rxd : Levels), Drives s .sending f → inv s →
    inv (s.collide (s.line.compare f.bytes rxd).1)
  driveReply : ∀ {s : State} {f : Frame}, s.access.reply = some f →
    s.access.state = .idle ∨ s.access.state = .defer ∨ s.access.state = .gap ∨ s.access.state = .draw →
    inv s → inv ((s.modAccess fun a => { a with reply := none }).drive .replying f)
  completeReply : ∀ {s : State} {f : Frame} (rxd : Levels), Drives s .replying f → inv s →
    inv (s.completeReply (s.line.compare f.bytes rxd).1 f)
  abandonReply : ∀ {s : State} {f : Frame} (rxd : Levels), Drives s .replying f → inv s →
    inv (s.abandonReply (s.line.compare f.bytes rxd).1)
  closeUnanswered : ∀ {s : State}, s.access.state = .awaitReply → inv s → inv s.closeUnanswered
  lineFault : ∀ {s : State} (reason : FaultReason), s.access.state ≠ .off → s.de = false → inv s →
    inv (s.lineFault reason)
  recover : ∀ {s : State}, s.station.state = .lineFault → inv s → inv ((s.placeNotice .join).enterActive).leaveOff
  listenOut : ∀ {s : State}, inv s → inv s.listenOut
  beaconOut : ∀ {s : State}, inv s → inv s.beaconOut
  renewalOut : ∀ {s : State}, inv s → inv s.renewalOut
  presenceOut : ∀ {s : State} (peer : Nat), inv s → inv (s.presenceOut peer)
  holdOut : ∀ {s : State} (peer : Nat), inv s → inv (s.holdOut peer)
  retryOut : ∀ {s : State} (slot : Nat), inv s → inv (s.retryOut slot)

theorem State.modLink_unchanged (s : State) (f : Link → Link) : UnchangedBut [.link] s (s.modLink f) := by
  intro b hb
  cases b
  case link => exact absurd (by decide) hb
  all_goals rfl

/-- The queue of commands is a block of its own. -/
theorem State.pending_unchanged (s : State) (p : List Instr) : UnchangedBut [.pending] s { s with pending := p } := by
  intro b hb
  cases b
  case pending => exact absurd (by decide) hb
  all_goals rfl

/-- READ PEER changes nothing (R77). -/
theorem answerReadPeer_keeps {inv : State → Prop} {s : State} (address : Byte) (h : inv s) :
    inv (answerReadPeer address s).state := by
  rwa [answerReadPeer_state]

/-- An operation performed on a condition, else nothing. -/
theorem ite_keeps {inv : State → Prop} {p : Prop} [Decidable p] {s t : State} (h : inv s) (ht : p → inv t) :
    inv (if p then t else s) := by
  split_ifs with hp
  exacts [ht hp, h]

/-- The one or the other request is answered. -/
theorem answer_ite_keeps {inv : State → Prop} {p : Prop} [Decidable p] {a b : Answer} (ha : inv a.state)
    (hb : inv b.state) : inv (if p then a else b).state := by
  split_ifs
  exacts [ha, hb]

namespace OperationsKeep
variable {inv : State → Prop} (k : OperationsKeep inv)
include k

theorem modLink {s : State} (f : Link → Link) (h : inv s) : inv (s.modLink f) :=
  k.surroundings ((s.modLink_unchanged f).mono (by decide)) h

/-! ### Requests -/

theorem postBytes {s : State} (dest cls length : Byte) (payload : List Byte) (h : inv s) :
    inv (answerPostBytes dest cls length payload s).state := by
  unfold answerPostBytes
  split
  · exact h
  · exact k.post dest cls length _ h

/-- A request discarded, or answered by its block, keeps what the answer keeps. -/
theorem present {s : State} (code : Byte) {answer : State → Answer} (ha : inv s → inv (answer s).state)
    (h : inv s) : inv (s.present code answer) := by
  unfold State.present
  split
  · exact k.modLink _ h
  · exact k.modLink _ (ha h)

theorem requestAnswer {s : State} (code : Byte) (params : List Byte) (h : inv s) :
    inv (requestAnswer code params s).state := by
  unfold Machine.requestAnswer
  refine answer_ite_keeps (k.status h) ?_
  refine answer_ite_keeps (by split <;> [exact k.configure _ _ _ _ _ _ _ _ h; exact h]) ?_
  refine answer_ite_keeps (k.join h) ?_
  refine answer_ite_keeps (by split <;> [exact k.leave _ h; exact h]) ?_
  refine answer_ite_keeps (by split <;> [exact k.postBytes _ _ _ _ h; exact h]) ?_
  refine answer_ite_keeps (by split <;> [exact k.cancel _ _ h; exact h]) ?_
  refine answer_ite_keeps (k.fetch h) ?_
  refine answer_ite_keeps (by split <;> [exact k.takeOutcomes _ h; exact h]) ?_
  refine answer_ite_keeps (by split <;> [exact answerReadPeer_keeps _ h; exact h]) ?_
  exact answer_ite_keeps (by split <;> [exact k.readCounters _ h; exact h]) h

theorem takeRequest {s : State} (straps : BitVec 5) (rxdMark : Bool) (bytes : List Byte) (h : inv s) :
    inv (s.takeRequest straps rxdMark bytes) := by
  unfold State.takeRequest
  split
  · exact h
  · split_ifs
    · exact h
    · exact k.restart _ _ h
    · exact k.present _ (k.requestAnswer _ _) h

/-! ### Commands -/

/-- Every command keeps the invariant: it is one of the operations, or changes nothing. -/
theorem exec (c : Instr) {s : State} (h : inv s) : ∃ t, exec c s = .next t ∧ inv t := by
  have elapsed (ms : Nat) : inv (s.elapse ms) := k.elapse ms h
  cases c with
  | pinReset straps rxdMark sdi => exact ⟨_, rfl, k.pinReset straps rxdMark (k.modLink _ h)⟩
  | transactionStart =>
    refine ⟨_, rfl, ?_⟩
    split_ifs
    exacts [h, k.modLink _ h]
  | statusByteClocked byte0 =>
    refine ⟨_, rfl, ?_⟩
    split
    exacts [h, ite_keeps h fun _ => k.modLink _ h]
  | transactionEnd sdi straps rxdMark =>
    refine ⟨_, rfl, ?_⟩
    split
    exacts [k.modLink _ h, k.takeRequest _ _ _ (k.modLink _ h)]
  | nop => exact ⟨_, rfl, h⟩
  | status => exact ⟨_, rfl, k.present _ k.status h⟩
  | configure rate attempts retryBase beacon holdTime holdLevel resumeLevel mask =>
    exact ⟨_, rfl, k.present _ (k.configure _ _ _ _ _ _ _ _) h⟩
  | join => exact ⟨_, rfl, k.present _ k.join h⟩
  | leave mode => exact ⟨_, rfl, k.present _ (k.leave mode) h⟩
  | restart straps rxdMark => exact ⟨_, rfl, k.restart straps rxdMark h⟩
  | post dest cls length payload => exact ⟨_, rfl, k.present _ (k.postBytes _ _ _ _) h⟩
  | cancel slot tag => exact ⟨_, rfl, k.present _ (k.cancel slot tag) h⟩
  | fetch => exact ⟨_, rfl, k.present _ k.fetch h⟩
  | takeOutcomes max => exact ⟨_, rfl, k.present _ (k.takeOutcomes max) h⟩
  | readPeer address => exact ⟨_, rfl, k.present _ (answerReadPeer_keeps address) h⟩
  | readCounters clear => exact ⟨_, rfl, k.present _ (k.readCounters clear) h⟩
  | activityStart rxd => exact ⟨_, rfl, k.beginActivity rxd h⟩
  | endOfFrame rxd =>
    refine ⟨_, rfl, ?_⟩
    split_ifs with hde
    · exact h
    · exact k.endOfFrame rxd (by simpa using hde) h
    · exact k.endOfFrame [] (s.beginActivity_de rxd (by simpa using hde)) (k.beginActivity rxd h)
  | accessGapComplete => exact ⟨_, rfl, ite_keeps h fun hs => k.completeGap hs h⟩
  | lineWin => exact ⟨_, rfl, ite_keeps h fun hs => k.win hs (k.reportIdle _ h)⟩
  | frameComplete rxd =>
    refine ⟨_, rfl, ?_⟩
    split
    exacts [ite_keeps h fun _ => k.completeFrame rxd ⟨‹_›, ‹_›⟩ h, h]
  | collision rxd =>
    refine ⟨_, rfl, ?_⟩
    split
    exacts [ite_keeps h fun _ => k.collide rxd ⟨‹_›, ‹_›⟩ h, h]
  | replyGap =>
    refine ⟨_, rfl, ?_⟩
    split
    exacts [h, ite_keeps h fun hs => k.driveReply ‹_› hs h]
  | replyComplete rxd =>
    refine ⟨_, rfl, ?_⟩
    split
    exacts [ite_keeps h fun _ => k.completeReply rxd ⟨‹_›, ‹_›⟩ h, h]
  | replyCollision rxd =>
    refine ⟨_, rfl, ?_⟩
    split
    exacts [ite_keeps h fun _ => k.abandonReply rxd ⟨‹_›, ‹_›⟩ h, h]
  | replyWindowTimeout =>
    exact ⟨_, rfl, ite_keeps h fun ⟨hs, _⟩ => k.closeUnanswered hs (k.reportIdle _ h)⟩
  | stuckLine => exact ⟨_, rfl, ite_keeps h fun ⟨_, hoff, hde⟩ => k.lineFault _ hoff hde h⟩
  | lineQuiet => exact ⟨_, rfl, ite_keeps h fun ⟨hs, _⟩ => k.recover hs (k.reportIdle _ h)⟩
  | joinListenExpiry ms => exact ⟨_, rfl, k.listenOut (elapsed ms)⟩
  | beaconTimerExpiry ms => exact ⟨_, rfl, k.beaconOut (elapsed ms)⟩
  | holdRenewalExpiry ms => exact ⟨_, rfl, k.renewalOut (elapsed ms)⟩
  | presenceTimeout peer ms => exact ⟨_, rfl, k.presenceOut peer (elapsed ms)⟩
  | holdTimerExpiry peer ms => exact ⟨_, rfl, k.holdOut peer (elapsed ms)⟩
  | retryTimerExpiry slot ms => exact ⟨_, rfl, k.retryOut slot (elapsed ms)⟩

/-- A step takes a command from the queue, or lets one ms pass. -/
theorem step {s t : State} (h : inv s) (ht : step s = .next t) : inv t := by
  have queued (s : State) (p : List Instr) : UnchangedBut [.link, .pending] s { s with pending := p } :=
    (s.pending_unchanged p).mono (by decide)
  unfold Machine.step at ht
  split at ht
  · obtain rfl := Host.Outcome.next.inj ht
    exact k.surroundings (queued _ _) (k.elapse 1 h)
  · next c rest _ =>
    obtain ⟨u, hu, kept⟩ := k.exec c (k.surroundings (queued s rest) h)
    obtain rfl := Host.Outcome.next.inj (ht.symm.trans hu)
    exact kept

end OperationsKeep
end Sys2Proof.Machine
end

/-! SUPPORT. The HOLD notice (R50): what the hold condition is read from, and which operations keep the notice exact. -/

section
namespace Sys2Proof.Machine

-- One proof at a time: a thread for each that waits for the same case split can run the checker out of memory.
set_option Elab.async false

/-! ### The operations on one block -/

/-- The notice is read from the station, the condition from the station and H. -/
theorem HoldNoticeExact.of_blocks {s t : State} (h : HoldNoticeExact s) (hs : t.station = s.station)
    (hi : t.inbound.h = s.inbound.h) : HoldNoticeExact t := by
  simpa only [HoldNoticeExact, State.holdCondition, State.inService, hs, hi] using h

theorem HoldNoticeExact.settles {s t : State} (h : HoldNoticeExact s) (k : Settles s t) : HoldNoticeExact t := by
  obtain ⟨_, _, _, _, _, rfl⟩ := k
  exact h

/-- The access controller is not read. -/
theorem HoldNoticeExact.modAccess {s : State} (f : Access → Access) (h : HoldNoticeExact s) :
    HoldNoticeExact (s.modAccess f) := h

theorem HoldNoticeExact.applyWants {s : State} (h : HoldNoticeExact s) : HoldNoticeExact s.applyWants := by
  unfold State.applyWants
  exact ite_keeps h fun _ => h

/-- R125: a change of H re-evaluates the condition. -/
theorem HoldNoticeExact.setH {s : State} (hold : Bool) (h : HoldNoticeExact s) : HoldNoticeExact (s.setH hold) := by
  unfold State.setH
  split_ifs
  exacts [h, State.reevalHold_exact _]

/-- Outside service the condition is false (R50). -/
theorem HoldNoticeExact.of_not_inService {s : State} (hs : s.inService = false)
    (hn : s.station.notices.hold = false) : HoldNoticeExact s := by
  rw [HoldNoticeExact, State.holdCondition, hs, hn, Bool.false_and]

/-! ### The windows and the entries to OFF -/

theorem HoldNoticeExact.closeWindow {s : State} (w : WindowResult) (h : HoldNoticeExact s) :
    HoldNoticeExact (s.closeWindow w) := (h.settles (s.settleWindow_settles w)).modAccess _

theorem HoldNoticeExact.closeOpenWindow {s : State} (h : HoldNoticeExact s) : HoldNoticeExact s.closeOpenWindow := by
  unfold State.closeOpenWindow
  exact ite_keeps h fun _ => h.closeWindow _

theorem HoldNoticeExact.enterOff {s : State} (h : HoldNoticeExact s) : HoldNoticeExact s.enterOff := by
  unfold State.enterOff
  exact h.closeOpenWindow.modAccess _

theorem HoldNoticeExact.leaveOff {s : State} (h : HoldNoticeExact s) : HoldNoticeExact s.leaveOff := by
  unfold State.leaveOff
  exact (h.modAccess _).applyWants

/-- R53: no notice is left in UNJOINED. -/
theorem State.enterUnjoined_holdNoticeExact (s : State) : HoldNoticeExact s.enterUnjoined := by
  unfold State.enterUnjoined
  exact HoldNoticeExact.enterOff (HoldNoticeExact.of_not_inService rfl rfl)

theorem State.unjoinedFlagged_holdNoticeExact (s : State) : HoldNoticeExact s.enterUnjoined.flagChange :=
  s.enterUnjoined_holdNoticeExact

theorem HoldNoticeExact.lineFault {s : State} (reason : FaultReason) (h : HoldNoticeExact s) :
    HoldNoticeExact (s.lineFault reason) := by
  unfold State.lineFault
  split
  · exact HoldNoticeExact.enterOff (HoldNoticeExact.of_not_inService rfl rfl)
  · exact State.unjoinedFlagged_holdNoticeExact _
  · exact State.unjoinedFlagged_holdNoticeExact _
  · exact h
  · exact h

/-! ### Requests -/

theorem HoldNoticeExact.changeRate {s : State} (rate : Nat) (h : HoldNoticeExact s) :
    HoldNoticeExact (s.changeRate rate) := by
  unfold State.changeRate
  split_ifs
  exacts [h, h]

theorem HoldNoticeExact.configure {s : State} (a b c d e f g m : Byte) (h : HoldNoticeExact s) :
    HoldNoticeExact (answerConfigure a b c d e f g m s).state := by
  unfold answerConfigure
  dsimp only
  split_ifs
  · exact h
  · exact HoldNoticeExact.setH _ (h.changeRate (configOf a b c d e f g m).rate)
  · exact h

theorem HoldNoticeExact.join {s : State} (h : HoldNoticeExact s) : HoldNoticeExact (answerJoin s).state := by
  unfold answerJoin
  split_ifs with hs
  · exact h
  · exact h
  · have unjoined : s.station.state = .unjoined := not_not.mp hs
    refine HoldNoticeExact.leaveOff (HoldNoticeExact.of_not_inService rfl (h.trans ?_))
    simp [State.holdCondition, State.inService, unjoined]

theorem State.startLeave_holdNoticeExact (s : State) (mode : LeaveMode) : HoldNoticeExact (s.startLeave mode) := by
  have leaving := State.reevalHold_exact (s.modStation fun st => { st with state := .leaving, leaveMode := some mode })
  refine HoldNoticeExact.applyWants (HoldNoticeExact.settles ?_ (State.watchQueues_settles _))
  cases mode with
  | drain => exact leaving
  | abandon => exact leaving.settles (State.abandonAll_settles _)

theorem HoldNoticeExact.leave {s : State} (mode : Byte) (h : HoldNoticeExact s) :
    HoldNoticeExact (answerLeave mode s).state := by
  unfold answerLeave
  split
  · exact h
  split
  · exact h
  · unfold State.leaveJoining
    split_ifs
    exacts [h, s.enterUnjoined_holdNoticeExact]
  · exact s.startLeave_holdNoticeExact _
  · unfold State.changeLeave
    have changed : HoldNoticeExact (s.modStation fun st => { st with leaveMode := some .abandon }) := h
    exact ite_keeps h fun _ => (changed.settles (State.abandonAll_settles _)).applyWants
  · dsimp only
    exact State.enterUnjoined_holdNoticeExact _

theorem HoldNoticeExact.post {s : State} (dest cls length : Byte) (payload : List Byte) (h : HoldNoticeExact s) :
    HoldNoticeExact (answerPost dest cls length payload s).state := by
  unfold answerPost
  split
  · exact h
  split
  · exact h
  split
  · exact h
  · exact (h.settles ((s.setSlot_settles _ _).trans (State.modQueue_settles _ _ _))).applyWants

theorem HoldNoticeExact.cancel {s : State} (slot tag : Byte) (h : HoldNoticeExact s) :
    HoldNoticeExact (answerCancel slot tag s).state := by
  unfold answerCancel
  split
  · exact h
  split
  · exact h
  · exact (h.settles (s.resolve_settles _ _)).applyWants
  · exact (h.settles (s.resolve_settles _ _)).applyWants
  · exact h.settles (State.setMark_settles _ s _)
  · exact h.settles (State.setMark_settles _ s _)

theorem HoldNoticeExact.fetch {s : State} (h : HoldNoticeExact s) : HoldNoticeExact (answerFetch s).state := by
  unfold answerFetch
  split
  · exact h
  · next rest _ =>
    have removed : HoldNoticeExact (s.modInbound fun b => { b with records := rest }) := h
    exact (removed.setH _).applyWants

theorem HoldNoticeExact.takeOutcomes {s : State} (max : Byte) (h : HoldNoticeExact s) :
    HoldNoticeExact (answerTakeOutcomes max s).state := by
  unfold answerTakeOutcomes
  split_ifs
  · exact h
  · exact h
  · exact h.settles ((s.modOutcomes_settles _).trans (State.refill_settles _))

/-! ### Heard frames -/

theorem HoldNoticeExact.addressConflict {s : State} (h : HoldNoticeExact s) : HoldNoticeExact s.addressConflict := by
  unfold State.addressConflict
  dsimp only
  split_ifs
  · exact State.unjoinedFlagged_holdNoticeExact _
  · exact h

theorem HoldNoticeExact.receiveData {s : State} (f : Frame) (h : HoldNoticeExact s) :
    HoldNoticeExact (s.receiveData f) := by
  unfold State.receiveData
  split_ifs
  · exact h
  · exact h
  · exact HoldNoticeExact.setH _
      (HoldNoticeExact.settles (s := s.listRecord _) h (State.modPeer_settles _ _ _))
  · exact h

theorem HoldNoticeExact.receiveDatagram {s : State} (f : Frame) (h : HoldNoticeExact s) :
    HoldNoticeExact (s.receiveDatagram f) := by
  unfold State.receiveDatagram
  split_ifs
  · exact h
  · exact HoldNoticeExact.setH (s := s.listRecord _) _ h
  · exact h

theorem HoldNoticeExact.route {s : State} (f : Frame) (h : HoldNoticeExact s) : HoldNoticeExact (s.route f) := by
  unfold State.route
  split
  · exact ite_keeps h fun _ => h.receiveData f
  · exact ite_keeps h fun _ => h.receiveDatagram f
  · exact ite_keeps h fun _ => h
  · exact ite_keeps h fun _ => h
  · exact h.settles (s.departure_settles _)
  · exact h

theorem HoldNoticeExact.takeFound {s : State} (found : Found) (h : HoldNoticeExact s) :
    HoldNoticeExact (s.takeFound found) := by
  cases found with
  | noFrame => exact h
  | discarded k => exact h
  | valid f =>
    have counted : HoldNoticeExact (s.count .framesHeard) := h
    unfold State.takeFound State.takeValid
    dsimp only
    split_ifs
    · exact counted.addressConflict
    · exact (counted.settles (State.modPeer_settles _ _ _)).route f

theorem HoldNoticeExact.accessEnded {s : State} (w : WindowResult) (h : HoldNoticeExact s) :
    HoldNoticeExact (s.accessEnded w) := by
  unfold State.accessEnded
  split
  · exact h
  · exact ite_keeps h fun _ => (h.closeWindow w).modAccess _
  · exact h.applyWants

theorem HoldNoticeExact.endOfFrame {s : State} (rxd : Levels) (h : HoldNoticeExact s) :
    HoldNoticeExact (s.endOfFrame rxd) := by
  unfold State.endOfFrame
  split
  · exact h
  · have ended : HoldNoticeExact (s.occupyWindow rxd).lineEnded := h
    unfold State.endBurst
    split_ifs
    · exact (ended.takeFound _).accessEnded _
    · exact ended.accessEnded _

/-! ### Own frames -/

theorem HoldNoticeExact.win {s : State} (h : HoldNoticeExact s) : HoldNoticeExact s.win := by
  unfold State.win
  split
  · exact h
  · next d i m _ =>
    have advanced : Settles s (s.advanceTx m) := by
      unfold State.advanceTx
      split_ifs
      exacts [s.modPeer_settles _ _, .refl s]
    have taken : Settles s (s.takeMessage d i m) :=
      (advanced.trans (State.setSlot_settles _ i _)).trans (State.modEngine_settles _ _)
    have takes : HoldNoticeExact (s.takeMessage d i m) := h.settles taken
    exact takes
  · exact HoldNoticeExact.applyWants (s := s.modAccess _) h

theorem HoldNoticeExact.noticeCompleted {s : State} (kind : FrameKind) (h : HoldNoticeExact s) :
    HoldNoticeExact (s.noticeCompleted kind) := by
  unfold State.noticeCompleted
  split
  · split_ifs
    exacts [State.unjoinedFlagged_holdNoticeExact _, State.reevalHold_exact _, h]
  · exact ite_keeps h fun _ => State.unjoinedFlagged_holdNoticeExact _
  · exact h

theorem State.completeFrame_holdNoticeExact (s : State) (l : Line) (f : Frame) :
    HoldNoticeExact (s.completeFrame l f) := by
  have sent (u : State) : HoldNoticeExact (u.frameSent f.kind f.h) := State.reevalHold_exact _
  have completed := ((sent ((((s.endDrive l).modAccess fun a => { a with n := 0 }).count .framesSent))).settles
    (State.completeInFlight_settles _)).noticeCompleted f.kind
  unfold State.completeFrame State.afterContended
  dsimp only
  split_ifs
  exacts [completed, completed, completed]

theorem HoldNoticeExact.collide {s : State} (l : Line) (h : HoldNoticeExact s) : HoldNoticeExact (s.collide l) := by
  have withdrawn := HoldNoticeExact.settles
    (s := ((s.endDrive l).modAccess fun a => { a with state := .defer }).count .collisions) h
    (State.withdrawInFlight_settles _)
  unfold State.collide
  dsimp only
  split_ifs
  · exact HoldNoticeExact.lineFault (s := State.modAccess _ _) _ withdrawn
  · exact State.unjoinedFlagged_holdNoticeExact _
  · exact withdrawn

/-! ### Timers -/

theorem HoldNoticeExact.elapse {s : State} (ms : Nat) (h : HoldNoticeExact s) : HoldNoticeExact (s.elapse ms) := by
  refine h.trans ?_
  unfold State.holdCondition State.inService
  rw [s.elapse_station]
  cases hr : s.station.renewal <;> simp [Timer.countDown]

theorem HoldNoticeExact.listenOut {s : State} (h : HoldNoticeExact s) : HoldNoticeExact s.listenOut := by
  unfold State.listenOut
  exact ite_keeps h fun _ => HoldNoticeExact.applyWants (s := State.placeNotice _ _) h

theorem HoldNoticeExact.beaconOut {s : State} (h : HoldNoticeExact s) : HoldNoticeExact s.beaconOut := by
  unfold State.beaconOut
  refine ite_keeps h fun _ => ?_
  dsimp only
  split_ifs
  exacts [HoldNoticeExact.applyWants (s := State.placeNotice _ _) h, h]

theorem HoldNoticeExact.renewalOut {s : State} (h : HoldNoticeExact s) : HoldNoticeExact s.renewalOut := by
  unfold State.renewalOut
  exact ite_keeps h fun _ => (State.reevalHold_exact _).applyWants

theorem HoldNoticeExact.presenceOut {s : State} (peer : Nat) (h : HoldNoticeExact s) :
    HoldNoticeExact (s.presenceOut peer) := by
  unfold State.presenceOut
  exact ite_keeps h fun _ => (h.settles (s.makeSilent_settles _)).applyWants

theorem HoldNoticeExact.holdOut {s : State} (peer : Nat) (h : HoldNoticeExact s) :
    HoldNoticeExact (s.holdOut peer) := by
  unfold State.holdOut
  exact ite_keeps h fun _ => (h.settles (s.modPeer_settles _ _)).applyWants

theorem HoldNoticeExact.retryOut {s : State} (slot : Nat) (h : HoldNoticeExact s) :
    HoldNoticeExact (s.retryOut slot) := by
  unfold State.retryOut
  exact ite_keeps h fun _ => (h.settles (s.modMessage_settles _ _)).applyWants

/-! ### Every step -/

theorem operationsKeep_holdNoticeExact : OperationsKeep HoldNoticeExact where
  surroundings same h := h.of_blocks (same .station (by decide)) (congrArg Inbound.h (same .inbound (by decide)))
  elapse ms h := h.elapse ms
  pinReset _ _ _ := .of_not_inService rfl rfl
  restart _ _ _ := .of_not_inService rfl rfl
  status h := h
  configure _ _ _ _ _ _ _ _ h := h.configure _ _ _ _ _ _ _ _
  join h := h.join
  leave mode h := h.leave mode
  post _ _ _ _ h := h.post _ _ _ _
  cancel _ _ h := h.cancel _ _
  fetch h := h.fetch
  takeOutcomes max h := h.takeOutcomes max
  readCounters clear {s} h := by
    unfold answerReadCounters
    split_ifs <;> exact h
  beginActivity _ h := h
  endOfFrame rxd _ h := h.endOfFrame rxd
  completeGap _ h := h
  reportIdle _ h := h
  win _ h := h.win
  completeFrame _ _ _ := State.completeFrame_holdNoticeExact _ _ _
  collide _ _ h := h.collide _
  driveReply _ _ h := h
  completeReply _ _ _ := State.reevalHold_exact _
  abandonReply _ _ h := h
  closeUnanswered _ h := (h.closeWindow _).modAccess _
  lineFault reason _ _ h := h.lineFault reason
  recover _ _ := (State.reevalHold_exact _).leaveOff
  listenOut h := h.listenOut
  beaconOut h := h.beaconOut
  renewalOut h := h.renewalOut
  presenceOut peer h := h.presenceOut peer
  holdOut peer h := h.holdOut peer
  retryOut slot h := h.retryOut slot

/-- Settles O51: every operation keeps the HOLD notice exact, by re-evaluation or by leaving what it is read from. -/
theorem stepKeepsHoldNoticeExact : Obligations.StepKeepsHoldNoticeExact := by
  unfold Obligations.StepKeepsHoldNoticeExact
  exact fun _ _ h ht => operationsKeep_holdNoticeExact.step h ht

end Sys2Proof.Machine
end

/-! SUPPORT. The LEAVE notice of a drained LEAVING (R52, R117) and the replies of the access controller (R9): which
operations keep the notice placed. -/

section
namespace Sys2Proof.Machine

-- One proof at a time: a thread for each that waits for the same case split can run the checker out of memory.
set_option Elab.async false

/-! ### Replies -/

/-- The frame kinds that answer a DATA frame (R9). -/
def Frame.IsReply (f : Frame) : Prop := f.kind = .ack ∨ f.kind = .refuse

theorem Access.repliesOnly_iff (a : Access) : a.repliesOnly = true ↔
    (∀ f, a.reply = some f → f.IsReply) ∧ (a.state = .replying → ∀ f, a.frame = some f → f.IsReply) := by
  obtain ⟨state, n, draw, frame, reply, occupied, stuck, recovery⟩ := a
  cases frame <;> cases reply <;> cases state <;> simp [Access.repliesOnly, Frame.IsReply]

/-- A change of the access controller that decides no reply and starts to drive none. -/
theorem Access.repliesOnly_of {a b : Access} (h : a.repliesOnly = true) (hr : b.reply = a.reply)
    (hs : b.state = .replying → ∀ f, b.frame = some f → a.state = .replying ∧ a.frame = some f) :
    b.repliesOnly = true := by
  obtain ⟨pending, driven⟩ := a.repliesOnly_iff.mp h
  refine b.repliesOnly_iff.mpr ⟨fun f hf => pending f (hr ▸ hf), fun hb f hf => ?_⟩
  obtain ⟨ha, hf⟩ := hs hb f hf
  exact driven ha f hf

/-- R52: a LEAVE notice that is complete in LEAVING ends it. -/
theorem State.noticeCompleted_leave {s : State} (h : s.station.state = .leaving) :
    s.noticeCompleted (.notice .leave) = s.enterUnjoined.flagChange := if_pos h

namespace LeaveNoticePlaced

/-! ### The operations on one block -/

/-- The notice and the condition for it are read from the station and the queues. -/
theorem congr {s t : State} (h : LeaveNoticePlaced s) (ha : t.access.repliesOnly = true)
    (hs : t.station.state = s.station.state) (hq : ∀ d, t.queue d = s.queue d)
    (hl : t.station.notices.leave = s.station.notices.leave) : LeaveNoticePlaced t := by
  obtain ⟨-, placed⟩ := h
  refine ⟨ha, fun leaving empty => ?_⟩
  rw [hl]
  exact placed (hs ▸ leaving) fun d hd => hq d ▸ empty d hd

theorem of_not_leaving {s : State} (ha : s.access.repliesOnly = true) (hs : s.station.state ≠ .leaving) :
    LeaveNoticePlaced s := ⟨ha, fun leaving => absurd leaving hs⟩

theorem repliesOnly {s : State} (h : LeaveNoticePlaced s) : s.access.repliesOnly = true := h.1

theorem modAccess {s : State} (f : Access → Access) (h : LeaveNoticePlaced s)
    (hr : (f s.access).reply = s.access.reply := by rfl)
    (hs : (f s.access).state = .replying → ∀ g, (f s.access).frame = some g →
      s.access.state = .replying ∧ s.access.frame = some g := by nofun) : LeaveNoticePlaced (s.modAccess f) :=
  h.congr (Access.repliesOnly_of h.repliesOnly hr hs) rfl (fun _ => rfl) rfl

theorem count {s : State} (k : CounterName) (h : LeaveNoticePlaced s) : LeaveNoticePlaced (s.count k) := h

theorem applyWants {s : State} (h : LeaveNoticePlaced s) : LeaveNoticePlaced s.applyWants := by
  unfold State.applyWants
  refine ite_keeps h fun _ => h.modAccess _ rfl ?_
  cases s.lineIdle <;> nofun

theorem contendOrIdle {s : State} (h : LeaveNoticePlaced s) : LeaveNoticePlaced s.contendOrIdle := by
  refine h.modAccess _ rfl ?_
  cases s.wantsLine <;> nofun

theorem setH {s : State} (hold : Bool) (h : LeaveNoticePlaced s) : LeaveNoticePlaced (s.setH hold) := by
  unfold State.setH
  split_ifs <;> exact h

/-! ### Resolution -/

/-- R52, R117: the station controller sees empty queues at once. -/
theorem watchQueues {s : State} (h : s.access.repliesOnly = true) : LeaveNoticePlaced s.watchQueues := by
  unfold State.watchQueues
  split_ifs with hc
  · exact ⟨h, fun _ _ => rfl⟩
  · refine ⟨h, fun leaving empty => absurd ⟨leaving, ?_⟩ hc⟩
    simpa [State.queuesEmpty] using empty

theorem modMessage {s : State} (i : Nat) (f : Message → Message) (h : LeaveNoticePlaced s) :
    LeaveNoticePlaced (s.modMessage i f) :=
  h.congr (by simpa using h.repliesOnly) (by simp) (s.queue_modMessage i · f) (by simp)

theorem modPeer {s : State} (a : Nat) (f : PeerRecord → PeerRecord) (h : LeaveNoticePlaced s) :
    LeaveNoticePlaced (s.modPeer a f) :=
  h.congr (by simpa using h.repliesOnly) (by simp) (s.modPeer_queue a · f) (by simp)

theorem clearInFlight {s : State} (h : LeaveNoticePlaced s) : LeaveNoticePlaced s.clearInFlight := h

theorem resolve {s : State} (i : Nat) (r : MsgResult) (h : LeaveNoticePlaced s) :
    LeaveNoticePlaced (s.resolve i r) := by
  have handed (m : Message) : ((s.dequeue m.dest i).handOutcome i m r).access = s.access :=
    ((s.modQueue_settles m.dest _).trans (State.handOutcome_settles _ i m r)).access
  unfold State.resolve
  split
  · exact h
  · split
    · exact h
    · exact watchQueues (by rw [handed]; exact h.repliesOnly)

theorem resolveWaiting {s : State} (r : MsgResult) (i : Nat) (h : LeaveNoticePlaced s) :
    LeaveNoticePlaced (State.resolveWaiting r s i) := by
  unfold State.resolveWaiting
  split
  · exact h
  · split
    exacts [h.resolve i r, h.resolve i r, h]

theorem resolveQueue {s : State} (d : Nat) (r : MsgResult) (h : LeaveNoticePlaced s) :
    LeaveNoticePlaced (s.resolveQueue d r) :=
  foldl_invariant _ LeaveNoticePlaced (fun _ i hs => resolveWaiting r i hs) _ s h

theorem markQueue {s : State} (d : Nat) (k : Mark) (h : LeaveNoticePlaced s) :
    LeaveNoticePlaced (s.markQueue d k) :=
  foldl_invariant _ LeaveNoticePlaced (fun _ i hs => modMessage i _ hs) _ s h

theorem abandonAll {s : State} (h : LeaveNoticePlaced s) : LeaveNoticePlaced s.abandonAll := by
  unfold State.abandonAll
  dsimp only
  refine foldl_invariant _ LeaveNoticePlaced (fun _ d hs => markQueue d _ hs) _ _ ?_
  exact foldl_invariant _ LeaveNoticePlaced (fun _ d hs => resolveQueue d _ hs) _ s h

theorem makeSilent {s : State} (a : Nat) (h : LeaveNoticePlaced s) : LeaveNoticePlaced (s.makeSilent a) :=
  ((h.modPeer a _).resolveQueue a _).markQueue a _

theorem settleMessage {s : State} (i : Nat) (m : Message) (mark : Option Mark) (w : WindowResult)
    (h : LeaveNoticePlaced s) : LeaveNoticePlaced (s.settleMessage i m mark w) := by
  cases w with
  | ack => exact h.resolve i _
  | refuse =>
    have held : LeaveNoticePlaced (s.holdPeer m.dest) := h.modPeer _ _
    have restored := held.modMessage i fun m => { m with attempts := m.attempts - 1 }
    cases mark with
    | none => exact restored.modMessage i _
    | some k => exact restored.resolve i _
  | noReply =>
    show LeaveNoticePlaced (s.settleNoReply i m mark)
    unfold State.settleNoReply
    split
    · exact h.resolve i _
    · split_ifs
      exacts [(h.resolve i _).makeSilent _, h.modMessage i _]

theorem settleWindow {s : State} (w : WindowResult) (h : LeaveNoticePlaced s) :
    LeaveNoticePlaced (s.settleWindow w) := by
  unfold State.settleWindow
  split
  · split
    · exact h.clearInFlight
    · next m _ =>
      split
      exacts [(h.settleMessage _ m _ w).clearInFlight, h.clearInFlight]
  · exact h.clearInFlight

theorem withdrawInFlight {s : State} (h : LeaveNoticePlaced s) : LeaveNoticePlaced s.withdrawInFlight := by
  unfold State.withdrawInFlight
  split
  · split
    · exact h.clearInFlight
    · split
      exacts [(h.resolve _ _).clearInFlight, (h.modMessage _ _).clearInFlight, h.clearInFlight]
  · exact h.clearInFlight

theorem completeInFlight {s : State} (h : LeaveNoticePlaced s) : LeaveNoticePlaced s.completeInFlight := by
  unfold State.completeInFlight
  split
  · split
    · exact h.clearInFlight
    · split
      · dsimp only
        split
        exacts [((h.modMessage _ _).resolve _ _).clearInFlight, (h.modMessage _ _).modMessage _ _]
      · exact h.clearInFlight
  · exact h.clearInFlight

/-! ### The windows, OFF and UNJOINED -/

theorem closeWindow {s : State} (w : WindowResult) (h : LeaveNoticePlaced s) :
    LeaveNoticePlaced (s.closeWindow w) := (h.settleWindow w).modAccess _ rfl fun hs _ hf => ⟨hs, hf⟩

/-- R21: OFF drives and decides nothing. -/
theorem enterOff {s : State} (hs : s.station.state ≠ .leaving) : LeaveNoticePlaced s.enterOff := by
  refine of_not_leaving ?_ ?_
  · rw [State.enterOff_access]
    rfl
  · show s.closeOpenWindow.station.state ≠ .leaving
    rwa [State.closeOpenWindow_state]

theorem enterUnjoined (s : State) : LeaveNoticePlaced s.enterUnjoined := enterOff (by nofun)

theorem leaveOff {s : State} (hs : s.station.state ≠ .leaving) : LeaveNoticePlaced s.leaveOff :=
  (of_not_leaving (s := s.modAccess _) rfl hs).applyWants

theorem flagChange {s : State} (h : LeaveNoticePlaced s) : LeaveNoticePlaced s.flagChange := h

theorem lineFault {s : State} (reason : FaultReason) (h : LeaveNoticePlaced s) :
    LeaveNoticePlaced (s.lineFault reason) := by
  unfold State.lineFault
  split
  · exact enterOff (by nofun)
  · exact (enterUnjoined _).flagChange
  · exact (enterUnjoined _).flagChange
  · exact h
  · exact h

/-! ### Requests -/

theorem configure {s : State} (a b c d e f g m : Byte) (h : LeaveNoticePlaced s) :
    LeaveNoticePlaced (answerConfigure a b c d e f g m s).state := by
  have rated (rate : Nat) : LeaveNoticePlaced (s.changeRate rate) := by
    unfold State.changeRate
    split_ifs <;> exact h
  unfold answerConfigure
  dsimp only
  split_ifs
  · exact h
  · have configured : LeaveNoticePlaced ((s.changeRate (configOf a b c d e f g m).rate).modStation fun st =>
      { st with config := configOf a b c d e f g m }) := rated _
    exact configured.setH _
  · exact h

theorem join {s : State} (h : LeaveNoticePlaced s) : LeaveNoticePlaced (answerJoin s).state := by
  unfold answerJoin
  split_ifs
  exacts [h, h, leaveOff (by nofun)]

theorem startLeave {s : State} (mode : LeaveMode) (h : LeaveNoticePlaced s) :
    LeaveNoticePlaced (s.startLeave mode) := by
  refine applyWants (watchQueues ?_)
  cases mode with
  | drain => exact h.repliesOnly
  | abandon =>
    dsimp only
    rw [(State.abandonAll_settles _).access]
    exact h.repliesOnly

theorem leave {s : State} (mode : Byte) (h : LeaveNoticePlaced s) : LeaveNoticePlaced (answerLeave mode s).state := by
  unfold answerLeave
  split
  · exact h
  split
  · exact h
  · unfold State.leaveJoining
    split_ifs
    exacts [h, enterUnjoined s]
  · exact h.startLeave _
  · have changed : LeaveNoticePlaced (s.modStation fun st => { st with leaveMode := some .abandon }) := h
    unfold State.changeLeave
    exact ite_keeps h fun _ => changed.abandonAll.applyWants
  · dsimp only
    exact enterUnjoined _

/-- POST is taken outside LEAVING only (R86). -/
theorem post {s : State} (dest cls length : Byte) (payload : List Byte) (h : LeaveNoticePlaced s) :
    LeaveNoticePlaced (answerPost dest cls length payload s).state := by
  unfold answerPost
  split
  · exact h
  next serves =>
  split
  · exact h
  split
  · exact h
  · refine applyWants (of_not_leaving (by simpa using h.repliesOnly) fun leaving => serves ?_)
    rw [State.modQueue_station, State.setSlot_station] at leaving
    simp [leaving]

theorem cancel {s : State} (slot tag : Byte) (h : LeaveNoticePlaced s) :
    LeaveNoticePlaced (answerCancel slot tag s).state := by
  unfold answerCancel
  split
  · exact h
  split
  exacts [h, (h.resolve _ _).applyWants, (h.resolve _ _).applyWants, h.modMessage _ _, h.modMessage _ _]

theorem fetch {s : State} (h : LeaveNoticePlaced s) : LeaveNoticePlaced (answerFetch s).state := by
  unfold answerFetch
  split
  · exact h
  · next rest _ =>
    have removed : LeaveNoticePlaced (s.modInbound fun b => { b with records := rest }) := h
    exact (removed.setH _).applyWants

theorem takeOutcomes {s : State} (max : Byte) (h : LeaveNoticePlaced s) :
    LeaveNoticePlaced (answerTakeOutcomes max s).state := by
  have freed (u : State) (i : Nat) (hu : LeaveNoticePlaced u) : LeaveNoticePlaced (u.freeDone i) := by
    unfold State.freeDone
    exact ite_keeps hu fun _ => hu
  unfold answerTakeOutcomes
  split_ifs
  exacts [h, h, foldl_invariant _ LeaveNoticePlaced freed _ _ h]

/-! ### Heard frames -/

theorem addressConflict {s : State} (h : LeaveNoticePlaced s) : LeaveNoticePlaced s.addressConflict := by
  unfold State.addressConflict
  dsimp only
  split_ifs
  exacts [(enterUnjoined _).flagChange, h]

/-- R122: a DATA frame is answered by an ACK or a REFUSE. -/
theorem answer {s : State} {kind : FrameKind} (hk : kind = .ack ∨ kind = .refuse) (f : Frame)
    (h : LeaveNoticePlaced s) : LeaveNoticePlaced (s.answer kind f) := by
  refine h.congr ?_ rfl (fun _ => rfl) rfl
  show (if s.access.state = .off then s.access else { s.access with reply := some (s.replyFrame kind f) }).repliesOnly =
    true
  split_ifs
  · exact h.repliesOnly
  · obtain ⟨-, driven⟩ := s.access.repliesOnly_iff.mp h.repliesOnly
    refine (Access.repliesOnly_iff _).mpr ⟨fun g hg => ?_, driven⟩
    obtain rfl := Option.some.inj hg
    exact hk

theorem receiveData {s : State} (f : Frame) (h : LeaveNoticePlaced s) : LeaveNoticePlaced (s.receiveData f) := by
  have listed (r : Received) : LeaveNoticePlaced (s.listRecord r) := h
  unfold State.receiveData
  split_ifs
  · exact (h.count _).answer (.inr rfl) f
  · exact (h.count _).answer (.inl rfl) f
  · exact (((listed _).modPeer _ _).setH _).answer (.inl rfl) f
  · exact h

theorem receiveDatagram {s : State} (f : Frame) (h : LeaveNoticePlaced s) :
    LeaveNoticePlaced (s.receiveDatagram f) := by
  have listed (r : Received) : LeaveNoticePlaced (s.listRecord r) := h
  unfold State.receiveDatagram
  split_ifs
  exacts [h, (listed _).setH _, h]

theorem route {s : State} (f : Frame) (h : LeaveNoticePlaced s) : LeaveNoticePlaced (s.route f) := by
  unfold State.route
  split
  · exact ite_keeps h fun _ => h.receiveData f
  · exact ite_keeps h fun _ => h.receiveDatagram f
  · exact ite_keeps h fun _ => h
  · exact ite_keeps h fun _ => h
  · exact (h.makeSilent _).modPeer _ _
  · exact h

theorem takeFound {s : State} (found : Found) (h : LeaveNoticePlaced s) : LeaveNoticePlaced (s.takeFound found) := by
  cases found with
  | noFrame => exact h
  | discarded k => exact h
  | valid f =>
    have counted := h.count .framesHeard
    unfold State.takeFound State.takeValid
    dsimp only
    split_ifs
    exacts [counted.addressConflict, (counted.modPeer _ _).route f]

theorem accessEnded {s : State} (w : WindowResult) (h : LeaveNoticePlaced s) :
    LeaveNoticePlaced (s.accessEnded w) := by
  unfold State.accessEnded
  split
  · exact h.modAccess _
  · exact ite_keeps h fun _ => (h.closeWindow w).contendOrIdle
  · exact h.applyWants

theorem endOfFrame {s : State} (rxd : Levels) (h : LeaveNoticePlaced s) : LeaveNoticePlaced (s.endOfFrame rxd) := by
  unfold State.endOfFrame
  split
  · exact h
  · have ended : LeaveNoticePlaced (s.occupyWindow rxd).lineEnded := h
    unfold State.endBurst
    split_ifs
    exacts [(ended.takeFound _).accessEnded _, ended.accessEnded _]

theorem beginActivity {s : State} (rxd : Levels) (h : LeaveNoticePlaced s) :
    LeaveNoticePlaced (s.beginActivity rxd) := by
  refine modAccess (s := s.modLine _) _ h ?_ ?_
  · cases hs : s.access.state <;> simp [hs]
  · cases hs : s.access.state <;> simp [hs]

/-! ### Own frames -/

theorem win {s : State} (h : LeaveNoticePlaced s) : LeaveNoticePlaced s.win := by
  unfold State.win
  split
  · exact modAccess (s := State.modLine _ _) _ h
  · next d i m _ =>
    have advanced : LeaveNoticePlaced (s.advanceTx m) := by
      unfold State.advanceTx
      exact ite_keeps h fun _ => h.modPeer _ _
    have taken : LeaveNoticePlaced (s.takeMessage d i m) := advanced
    exact modAccess (s := State.modLine _ _) _ taken
  · exact (h.modAccess _).applyWants

/-- R9, R33: the reply that is driven is the one decided. -/
theorem driveReply {s : State} {f : Frame} (hf : s.access.reply = some f) (h : LeaveNoticePlaced s) :
    LeaveNoticePlaced ((s.modAccess fun a => { a with reply := none }).drive .replying f) := by
  obtain ⟨pending, -⟩ := s.access.repliesOnly_iff.mp h.repliesOnly
  refine h.congr ((Access.repliesOnly_iff _).mpr ⟨nofun, fun _ g hg => ?_⟩) rfl (fun _ => rfl) rfl
  obtain rfl := Option.some.inj hg
  exact pending f hf

theorem endDrive {s : State} (l : Line) (h : LeaveNoticePlaced s) : LeaveNoticePlaced (s.endDrive l) :=
  modAccess (s := s.modLine _) _ h rfl (by nofun)

/-- R48: of all frames only a LEAVE notice takes the LEAVE notice out of the set. -/
theorem frameSent {s : State} {kind : FrameKind} (h : LeaveNoticePlaced s)
    (hk : kind = .notice .leave → s.station.state ≠ .leaving) (hold : Bool) :
    LeaveNoticePlaced (s.frameSent kind hold) := by
  by_cases hs : s.station.state = .leaving
  · refine h.congr h.repliesOnly rfl (fun _ => rfl) ?_
    show (s.station.notices.completed kind).leave = _
    unfold NoticeSet.completed
    split
    exacts [rfl, absurd hs (hk rfl), rfl]
  · exact of_not_leaving h.repliesOnly hs

theorem noticeCompleted {s : State} (kind : FrameKind) (h : LeaveNoticePlaced s) :
    LeaveNoticePlaced (s.noticeCompleted kind) := by
  unfold State.noticeCompleted
  split
  · split_ifs
    exacts [(enterUnjoined _).flagChange, of_not_leaving h.repliesOnly (by nofun), h]
  · exact ite_keeps h fun _ => (enterUnjoined _).flagChange
  · exact h

theorem afterContended {s : State} (kind : FrameKind) (h : LeaveNoticePlaced s) :
    LeaveNoticePlaced (s.afterContended kind) := by
  unfold State.afterContended
  split_ifs
  exacts [h, h.modAccess _, h.contendOrIdle]

/-- R52: in LEAVING the LEAVE notice that is sent takes the station to UNJOINED. -/
theorem completeFrame {s : State} (l : Line) (f : Frame) (h : LeaveNoticePlaced s) :
    LeaveNoticePlaced (s.completeFrame l f) := by
  have released : LeaveNoticePlaced (((s.endDrive l).modAccess fun a => { a with n := 0 }).count .framesSent) :=
    ((h.endDrive l).modAccess _ rfl (by nofun)).count _
  unfold State.completeFrame
  refine afterContended f.kind ?_
  by_cases hk : f.kind = .notice .leave ∧ s.station.state = .leaving
  · obtain ⟨hk, hs⟩ := hk
    rw [hk, State.noticeCompleted_leave ?stays]
    · exact (enterUnjoined _).flagChange
    · exact (State.completeInFlight_settles _).station_state.trans hs
  · exact (completeInFlight (released.frameSent (fun hkind hs => hk ⟨hkind, hs⟩) f.h)).noticeCompleted f.kind

theorem collide {s : State} (l : Line) (h : LeaveNoticePlaced s) : LeaveNoticePlaced (s.collide l) := by
  have deferred := (((h.endDrive l).modAccess fun a => { a with state := .defer }).count .collisions)
  have withdrawn := deferred.withdrawInFlight
  have counted (n : Nat) := withdrawn.modAccess (fun a => { a with n := n }) rfl fun hs _ hf => ⟨hs, hf⟩
  unfold State.collide
  dsimp only
  split_ifs
  exacts [(counted _).lineFault _, (enterUnjoined _).flagChange, counted _]

/-- R34: the reply that ends is no LEAVE notice (R9). -/
theorem completeReply {s : State} {f : Frame} (l : Line) (hf : Drives s .replying f) (h : LeaveNoticePlaced s) :
    LeaveNoticePlaced (s.completeReply l f) := by
  obtain ⟨-, driven⟩ := s.access.repliesOnly_iff.mp h.repliesOnly
  obtain ⟨hs, hframe⟩ := hf
  have reply := driven hs f hframe
  refine contendOrIdle (((h.endDrive l).count .framesSent).frameSent (fun hk => ?_) f.h)
  simp [Frame.IsReply, hk] at reply

/-! ### Timers -/

theorem listenOut {s : State} (h : LeaveNoticePlaced s) : LeaveNoticePlaced s.listenOut := by
  unfold State.listenOut
  exact ite_keeps h fun _ => applyWants (s := State.placeNotice _ _) h

theorem beaconOut {s : State} (h : LeaveNoticePlaced s) : LeaveNoticePlaced s.beaconOut := by
  unfold State.beaconOut
  refine ite_keeps h fun _ => ?_
  dsimp only
  split_ifs
  exacts [applyWants (s := State.placeNotice _ _) h, h]

theorem renewalOut {s : State} (h : LeaveNoticePlaced s) : LeaveNoticePlaced s.renewalOut := by
  unfold State.renewalOut
  exact ite_keeps h fun _ => applyWants (s := State.reevalHold _) h

theorem presenceOut {s : State} (peer : Nat) (h : LeaveNoticePlaced s) : LeaveNoticePlaced (s.presenceOut peer) := by
  unfold State.presenceOut
  exact ite_keeps h fun _ => (h.makeSilent _).applyWants

theorem holdOut {s : State} (peer : Nat) (h : LeaveNoticePlaced s) : LeaveNoticePlaced (s.holdOut peer) := by
  unfold State.holdOut
  exact ite_keeps h fun _ => (h.modPeer _ _).applyWants

theorem retryOut {s : State} (slot : Nat) (h : LeaveNoticePlaced s) : LeaveNoticePlaced (s.retryOut slot) := by
  unfold State.retryOut
  exact ite_keeps h fun _ => (h.modMessage _ _).applyWants

end LeaveNoticePlaced

/-! ### Every step -/

theorem operationsKeep_leaveNoticePlaced : OperationsKeep LeaveNoticePlaced where
  surroundings same h := by
    have station := same .station (by decide)
    exact h.congr ((congrArg Access.repliesOnly (same .access (by decide))).trans h.repliesOnly)
      (congrArg Station.state station) (State.queue_congr (same .outbound (by decide)))
      (congrArg (fun st => st.notices.leave) station)
  elapse _ h := h
  pinReset _ _ _ := .of_not_leaving rfl (by nofun)
  restart _ _ _ := .of_not_leaving rfl (by nofun)
  status h := h
  configure _ _ _ _ _ _ _ _ h := h.configure _ _ _ _ _ _ _ _
  join h := h.join
  leave mode h := h.leave mode
  post _ _ _ _ h := h.post _ _ _ _
  cancel _ _ h := h.cancel _ _
  fetch h := h.fetch
  takeOutcomes max h := h.takeOutcomes max
  readCounters clear {s} h := by
    unfold answerReadCounters
    split_ifs <;> exact h
  beginActivity rxd h := h.beginActivity rxd
  endOfFrame rxd _ h := h.endOfFrame rxd
  completeGap _ h := LeaveNoticePlaced.modAccess (s := State.takeRandom _) _ h
  reportIdle _ h := h
  win _ h := h.win
  completeFrame _ _ h := h.completeFrame _ _
  collide _ _ h := h.collide _
  driveReply hf _ h := h.driveReply hf
  completeReply _ hf h := h.completeReply _ hf
  abandonReply _ _ h := ((h.endDrive _).modAccess _).count _
  closeUnanswered _ h := (h.closeWindow _).contendOrIdle
  lineFault reason _ _ h := h.lineFault reason
  recover _ _ := .leaveOff (by nofun)
  listenOut h := h.listenOut
  beaconOut h := h.beaconOut
  renewalOut h := h.renewalOut
  presenceOut peer h := h.presenceOut peer
  holdOut peer h := h.holdOut peer
  retryOut slot h := h.retryOut slot

/-- Settles O53: a resolution watches the queues, and of own frames only a LEAVE notice, which ends LEAVING, takes the
notice out of the set. -/
theorem stepKeepsLeaveNoticePlaced : Obligations.StepKeepsLeaveNoticePlaced := by
  unfold Obligations.StepKeepsLeaveNoticePlaced
  exact fun _ _ h ht => operationsKeep_leaveNoticePlaced.step h ht

end Sys2Proof.Machine
end

/-! SUPPORT. R22 as one change of the access controller. -/

section
namespace Sys2Proof.Machine

/-- Where R22 takes the access controller: out of IDLE if the station wants the line, to GAP or DEFER by the line. -/
theorem State.applyWants_eq (s : State) : s.applyWants = s.modAccess fun a =>
    { a with state :=
        if s.access.state = .idle ∧ s.wantsLine = true then (if s.lineIdle = true then .gap else .defer)
        else s.access.state } := by
  unfold State.applyWants
  split_ifs <;> rfl

theorem State.applyWants_unchanged (s : State) : UnchangedBut [.access] s s.applyWants := by
  rw [State.applyWants_eq]
  exact s.modAccess_unchanged _

theorem State.applyWants_station (s : State) : s.applyWants.station = s.station :=
  s.applyWants_unchanged .station (by decide)

/-- Outside IDLE the access controller stands (R22). -/
theorem State.applyWants_of_not_idle {s : State} (h : s.access.state ≠ .idle) : s.applyWants = s :=
  if_neg fun ⟨hidle, _⟩ => h hidle

/-- An IDLE access controller contends for what the station wants (R22). -/
theorem State.applyWants_state {s : State} (h : s.access.state = .idle) (hw : s.wantsLine = true) :
    s.applyWants.access.state = if s.lineIdle = true then .gap else .defer := by
  rw [State.applyWants_eq]
  exact if_pos ⟨h, hw⟩

/-- R22 opens no reply window. -/
theorem State.applyWants_not_awaiting {s : State} (h : s.access.state ≠ .awaitReply) :
    s.applyWants.access.state ≠ .awaitReply := by
  unfold State.applyWants
  refine ite_keeps (inv := fun s => s.access.state ≠ .awaitReply) h fun _ => ?_
  show (if s.lineIdle = true then AccessState.gap else .defer) ≠ .awaitReply
  split_ifs <;> nofun

end Sys2Proof.Machine
end

/-! SUPPORT. Resets (R59, R60): what every block reads afterwards, that the invariants hold then, and how a burst that
was under way ends (R19). -/

section
namespace Sys2Proof.Machine

/-! ### The state after reset -/

theorem State.reset_peer (a : Nat) : State.reset.peer a = PeerRecord.initial := by
  unfold State.peer State.reset
  split_ifs
  · rfl
  · rw [Vector.getElem?_replicate]
    split_ifs <;> rfl

theorem State.reset_slot (i : Nat) : State.reset.slot i = ⟨0, none⟩ := by
  unfold State.slot State.reset Outbound.reset
  rw [Vector.getElem?_replicate]
  split_ifs <;> rfl

theorem State.reset_queue (d : Nat) : State.reset.queue d = [] := by
  unfold State.queue State.reset Outbound.reset
  split_ifs
  · rfl
  · rw [Vector.getElem?_replicate]
    split_ifs <;> rfl

/-- Settles O4: the blocks are the values written, and every record, slot and queue reads as at reset. -/
theorem resetValues : Obligations.ResetValues := by
  unfold Obligations.ResetValues
  exact ⟨rfl, rfl, rfl, rfl, rfl, rfl, rfl, rfl, rfl, rfl, rfl, rfl, rfl, rfl, rfl, fun a _ => State.reset_peer a,
    fun i _ => State.reset_slot i, fun d _ => State.reset_queue d, rfl, rfl, rfl, rfl, rfl, rfl, rfl, rfl, rfl, rfl,
    rfl⟩

/-! ### The invariants after reset -/

theorem State.reset_accessFollowsStation : AccessFollowsStation State.reset :=
  ⟨fun _ => .inl rfl, fun _ => rfl⟩

/-- R79: every slot is FREE and in no list. -/
theorem State.reset_storeConsistent : StoreConsistent State.reset := by
  refine ⟨fun i _ => ?_, fun d _ i hi => ?_, nofun, fun d _ i hi => ?_, Nat.zero_le _, fun h => absurd rfl h⟩
  · have queued : State.reset.queuedCount i = 0 := by simp [State.queuedCount, State.reset_queue]
    exact (State.slotPlaced_free (by rw [State.reset_slot])).mpr ⟨queued, rfl⟩
  · rw [State.reset_queue] at hi
    cases hi
  · rw [State.reset_queue] at hi
    cases hi

theorem State.reset_inFlightConsistent : InFlightConsistent State.reset :=
  ⟨State.reset_accessFollowsStation, rfl, fun i _ => by rw [State.onlyInFlight, State.reset_slot]⟩

/-- R62: an initial record has no timer that runs. -/
theorem State.reset_timersGoverned : TimersGoverned State.reset := by
  refine ⟨State.reset_accessFollowsStation, fun a _ => ?_, fun _ => ⟨rfl, rfl, fun a _ => ?_⟩⟩
  · rw [State.reset_peer]
    exact ⟨nofun, nofun⟩
  · rw [State.reset_peer]
    exact ⟨rfl, rfl⟩

theorem State.reset_ownRecordInitial : OwnRecordInitial State.reset :=
  ⟨State.reset_peer _, fun i _ => by rw [State.notForSelf, State.reset_slot]⟩

theorem State.reset_silentQueueMarked : SilentQueueMarked State.reset := by
  intro a _ silent
  rw [State.reset_peer] at silent
  cases silent

/-- Settles O50: one lemma per invariant. -/
theorem resetMeetsInvariants : Obligations.ResetMeetsInvariants := by
  unfold Obligations.ResetMeetsInvariants
  exact ⟨.of_not_inService rfl rfl, nofun, .of_not_leaving rfl nofun, State.reset_accessFollowsStation,
    ⟨rfl, Nat.zero_le _, by decide, fun _ => rfl⟩, by decide, State.reset_storeConsistent,
    State.reset_inFlightConsistent, State.reset_timersGoverned, State.reset_ownRecordInitial,
    State.reset_silentQueueMarked, nofun⟩

/-! ### What a reset leaves of any state -/

/-- R5, R35: the burst under way, by the line's class and the length of its idle period. -/
theorem State.burstUnderWay_eq (s : State) : s.burstUnderWay =
    if s.de = false ∧ s.lineIdle = true ∧ 20 < s.line.quiet then none else s.line.burst := by
  unfold State.burstUnderWay
  refine if_congr ?_ rfl rfl
  simp [Line.over, State.lineIdle]

section
variable (s : State) (config : ConfigRecord) (reply : Option Reply) (straps : BitVec 5) (rxdMark : Bool)

theorem State.resetWith_leaves : ResetLeaves s (s.resetWith config reply straps rxdMark) straps rxdMark := by
  refine ⟨rfl, ?_, rfl, rfl, fun a _ => State.reset_peer a, fun i _ => State.reset_slot i,
    fun d _ => State.reset_queue d, rfl, rfl, rfl, rfl, rfl, rfl, rfl, rfl, rfl, rfl⟩
  rw [← State.burstUnderWay_eq]
  rfl

/-- No attention reason is left (R141). -/
theorem State.resetWith_attn : (s.resetWith config reply straps rxdMark).attn = false := by
  simp [State.attn, State.resetWith, State.reset, Station.reset]

end

/-! ### The burst that a reset leaves -/

/-- A burst under way that is ignored, outside a reply window (R6, R19). -/
def State.InIgnoredBurst (s : State) : Prop :=
  s.line.burst.map Burst.ignored = some true ∧ s.access.state ≠ .awaitReply

theorem State.resetWith_inIgnoredBurst {s : State} {config : ConfigRecord} {reply : Option Reply} {straps : BitVec 5}
    {rxdMark : Bool} (h : (s.resetWith config reply straps rxdMark).line.burst ≠ none) :
    (s.resetWith config reply straps rxdMark).InIgnoredBurst := by
  obtain ⟨b, hb⟩ := Option.ne_none_iff_exists'.mp h
  refine ⟨?_, nofun⟩
  rw [hb, Line.reset_burst_ignored hb]
  rfl

/-- R21: out of OFF the access controller opens no reply window. -/
theorem State.leaveOff_state (s : State) : s.leaveOff.access.state ≠ .awaitReply :=
  State.applyWants_not_awaiting (by nofun)

/-- R6: the burst under way at a JOIN is ignored from there on. -/
theorem State.startJoin_line (s : State) :
    s.startJoin.line = { s.line with burst := s.line.burst.map fun b => { b with ignored := true } } :=
  (State.leaveOff_controls _).line

theorem State.InIgnoredBurst.startJoin {s : State} (h : s.InIgnoredBurst) : s.startJoin.InIgnoredBurst := by
  obtain ⟨ignored, -⟩ := h
  obtain ⟨b, hb, -⟩ := Option.map_eq_some_iff.mp ignored
  exact ⟨by rw [s.startJoin_line, hb]; rfl, State.leaveOff_state _⟩

theorem State.InIgnoredBurst.join {s t : State} (h : s.InIgnoredBurst) (ht : exec .join s = .next t) :
    t.InIgnoredBurst := by
  obtain rfl := Host.Outcome.next.inj ht
  unfold State.present
  split
  · exact h
  · show (answerJoin s).state.InIgnoredBurst
    unfold answerJoin
    split_ifs
    exacts [h, h, h.startJoin]

/-- R6: the end of an ignored burst touches the line and the access controller alone. -/
theorem State.InIgnoredBurst.endOfFrame {s : State} (h : s.InIgnoredBurst) (rxd : Levels) :
    ∃ t, exec (.endOfFrame rxd) s = .next t ∧ UnchangedBut [.line, .access] s t := by
  obtain ⟨ignored, hw⟩ := h
  obtain ⟨b, hb, hi⟩ := Option.map_eq_some_iff.mp ignored
  by_cases hde : s.de = true
  · refine ⟨s, ?_, .refl _ s⟩
    rw [exec_endOfFrame, execEndOfFrame, if_pos hde]
  · refine ⟨_, exec_endOfFrame_of_burst (by simpa using hde) hb rxd, ?_⟩
    rw [State.occupyWindow_of_not_awaiting hw, State.endBurst_unheard (s.hears_of_ignored hi),
      State.accessEnded_outside (by exact hw) (State.lineIdle_of_ended rfl)]
    exact (s.lineEnded_unchanged.append (State.modAccess_unchanged _ _)).mono (by decide)

/-! ### The transaction that a reset abandoned -/

/-- R153: no transaction begins before SEL has been high. -/
theorem exec_transactionStart_of_selLow {s : State} (h : s.link.selLow = true) : exec .transactionStart s =
    .next s := by
  show Host.Outcome.next _ = _
  rw [if_pos h]

/-- R153: the end of an abandoned transaction takes nothing, and it has sent zeros. -/
theorem exec_transactionEnd_abandoned {s : State} (hx : s.link.txn = none) (h : s.link.selLow = true)
    (straps : BitVec 5) (rxdMark : Bool) (sdi : Bits) :
    exec (.transactionEnd sdi straps rxdMark) s = .next { s with link := { s.link with
      selLow := false
      sdo := s.link.sdo ++ List.replicate sdi.length false } } := by
  simp [exec, execTransactionEnd, hx, Link.sdoAfter, h, State.modLink]

theorem Link.sdoAfter_txn {l : Link} {x : Transaction} (h : l.txn = some x) (n : Nat) :
    l.sdoAfter n = x.sent (x.sdi.length + n) := by
  simp [Link.sdoAfter, h]

theorem Link.sdoAfter_abandoned {l : Link} (hx : l.txn = none) (h : l.selLow = true) (n : Nat) :
    l.sdoAfter n = l.sdo ++ List.replicate n false := by
  simp [Link.sdoAfter, hx, h]

/-- Settles O5: both resets are one operation on the blocks, the burst it leaves is ignored to its end, and an abandoned
transaction takes nothing. -/
theorem resetsReturnEveryBlock : Obligations.ResetsReturnEveryBlock := by
  unfold Obligations.ResetsReturnEveryBlock
  refine ⟨fun straps rxdMark sdi s => ⟨⟨_, rfl, ?_, rfl, rfl, rfl, ?_, fun x hx => ?_, fun hx hlow => ?_⟩,
    ⟨_, rfl, ?_, rfl, rfl, rfl, ?_, rfl⟩⟩, fun c straps rxdMark sdi s t u rxd hc ht hb hu => ?_, fun s hx hlow =>
    ⟨exec_transactionStart_of_selLow hlow, exec_transactionEnd_abandoned hx hlow⟩⟩
  · exact State.resetWith_leaves (s.modLink _) _ _ straps rxdMark
  · exact State.resetWith_attn _ _ _ _ _
  · exact Link.sdoAfter_txn hx _
  · exact Link.sdoAfter_abandoned hx hlow _
  · exact s.resetWith_leaves _ _ straps rxdMark
  · exact s.resetWith_attn _ _ _ _
  · have ignored : t.InIgnoredBurst := by
      rcases hc with rfl | rfl <;> obtain rfl := Host.Outcome.next.inj ht <;> exact State.resetWith_inIgnoredBurst hb
    rcases hu with rfl | hu
    exacts [ignored.endOfFrame rxd, (ignored.join hu).endOfFrame rxd]

end Sys2Proof.Machine
end

/-! SUPPORT. The station controller's requests: an accepted request, CONFIGURE (R40) and JOIN (R42). -/

section
namespace Sys2Proof.Machine

/-! ### Accepted requests -/

/-- An empty slot: the block's state, with ACCEPTED in the slot (R152, R164). -/
theorem State.present_accepted {s u : State} {answer : State → Answer} (code : Byte) (h : s.link.reply = none)
    (ha : answer s = ⟨u, .accepted, []⟩) :
    s.present code answer = u.modLink fun l => { l with reply := some ⟨code, .accepted, []⟩ } := by
  rw [State.present_free s code answer h, ha]
  rfl

/-- A reply placed in the slot leaves the rest of the link as the request's block did. -/
theorem State.placed_link {s u : State} (h : u.link = s.link) (r : Option Reply) :
    (u.modLink fun l => { l with reply := r }).link = { s.link with reply := r } := by
  rw [State.modLink_link, h]

/-! ### CONFIGURE -/

/-- R40, R155: the ranges of Table 3-3 and of the mask byte, on the bytes of the request. -/
theorem configOf_inRange_iff (rate attempts retryBase beacon holdTime holdLevel resumeLevel mask : Byte) :
    ((configOf rate attempts retryBase beacon holdTime holdLevel resumeLevel mask).inRange && maskInRange mask) =
      true ↔
    rate.toNat ≤ 7 ∧ (1 ≤ attempts.toNat ∧ attempts.toNat ≤ 15) ∧ 1 ≤ retryBase.toNat ∧
      (1 ≤ beacon.toNat ∧ beacon.toNat ≤ 50) ∧ 1 ≤ holdTime.toNat ∧
      (1 ≤ holdLevel.toNat ∧ holdLevel.toNat ≤ 32) ∧ resumeLevel.toNat < holdLevel.toNat ∧ mask.toNat < 16 := by
  have retryBase_le : retryBase.toNat ≤ 255 := Nat.le_of_lt_succ retryBase.isLt
  have holdTime_le : holdTime.toNat ≤ 255 := Nat.le_of_lt_succ holdTime.isLt
  simp only [ConfigRecord.inRange, maskInRange, Bool.and_eq_true, decide_eq_true_eq]
  simp only [configOf, retryBase_le, holdTime_le, and_true, and_assoc]

/-- R2: the receiver under a new rate, and under the same. -/
theorem State.changeRate_line (s : State) (rate : Nat) :
    (s.changeRate rate).line = { s.line with receiver :=
      if rate = s.station.config.rate then s.line.receiver else s.line.receiver.abandon } := by
  unfold State.changeRate
  split_ifs <;> rfl

theorem State.changeRate_unchanged (s : State) (rate : Nat) : UnchangedBut [.line] s (s.changeRate rate) := by
  unfold State.changeRate
  split_ifs
  exacts [.refl _ s, s.modLine_unchanged _]

theorem State.modInbound_unchanged (s : State) (f : Inbound → Inbound) :
    UnchangedBut [.inbound] s (s.modInbound f) := by
  intro b hb
  cases b
  case inbound => exact absurd (by decide) hb
  all_goals rfl

theorem State.setH_unchanged (s : State) (h : Bool) : UnchangedBut [.station, .inbound] s (s.setH h) := by
  unfold State.setH
  split_ifs
  exacts [.refl _ s, ((s.modInbound_unchanged _).append (State.modStation_unchanged _ _)).mono (by decide)]

/-- Of the station a value of H can change the HOLD notice alone (R125). -/
theorem State.setH_station (s : State) (h : Bool) : (s.setH h).station =
    { s.station with notices := { s.station.notices with hold := (s.setH h).station.notices.hold } } := by
  unfold State.setH
  split_ifs <;> rfl

/-- Outside service a value of H places no HOLD notice (R50). -/
theorem State.setH_hold_of_not_inService {s : State} (hs : s.inService = false)
    (hn : s.station.notices.hold = false) (h : Bool) : (s.setH h).station.notices.hold = false := by
  have noticed := (HoldNoticeExact.of_not_inService hs hn).setH h
  have state : (s.setH h).inService = false := by
    rw [State.inService, (s.setH_station h)]
    exact hs
  rw [noticed, State.holdCondition, state, Bool.false_and]

/-- CONFIGURE in UNJOINED with every field in range (R40). -/
def State.configured (s : State) (record : ConfigRecord) : State :=
  ((s.changeRate record.rate).modStation fun st => { st with config := record }).setH
    (holdAt record s.inbound.records.length s.inbound.h)

theorem State.configured_unchanged (s : State) (record : ConfigRecord) :
    UnchangedBut [.line, .station, .inbound] s (s.configured record) :=
  (((s.changeRate_unchanged record.rate).append (State.modStation_unchanged _ _)).append
    (State.setH_unchanged _ _)).mono (by decide)

theorem State.configured_line (s : State) (record : ConfigRecord) : (s.configured record).line =
    { s.line with receiver :=
      if record.rate = s.station.config.rate then s.line.receiver else s.line.receiver.abandon } := by
  rw [← s.changeRate_line record.rate]
  exact (State.setH_controls _ _).line

theorem State.configured_station (s : State) (record : ConfigRecord) : (s.configured record).station =
    { s.station with
      config := record
      notices := { s.station.notices with hold := (s.configured record).station.notices.hold } } := by
  have rated : (s.changeRate record.rate).station = s.station := s.changeRate_unchanged record.rate .station (by decide)
  have set := ((s.changeRate record.rate).modStation fun st => { st with config := record }).setH_station
    (holdAt record s.inbound.records.length s.inbound.h)
  rwa [State.modStation_station, rated] at set

theorem State.configured_hold {s : State} (hs : s.station.state = .unjoined) (hn : s.station.notices.hold = false)
    (record : ConfigRecord) : (s.configured record).station.notices.hold = false := by
  have rated : (s.changeRate record.rate).station = s.station := s.changeRate_unchanged record.rate .station (by decide)
  refine State.setH_hold_of_not_inService ?_ ?_ _
  · simp [State.inService, rated, hs]
  · simpa [rated] using hn

theorem State.configured_records (s : State) (record : ConfigRecord) :
    (s.configured record).inbound.records = s.inbound.records :=
  (State.setH_controls _ _).records.trans
    (congrArg Inbound.records (s.changeRate_unchanged record.rate .inbound (by decide)))

/-- Settles O12: the two refusals, and the configured state block by block. -/
theorem configureReplacesRecord : Obligations.ConfigureReplacesRecord := by
  unfold Obligations.ConfigureReplacesRecord
  intro rate attempts retryBase beacon holdTime holdLevel resumeLevel mask s free
  have ranges := configOf_inRange_iff rate attempts retryBase beacon holdTime holdLevel resumeLevel mask
  refine ⟨fun hs => ?_, fun hs out => ?_, fun hs inside => ?_⟩
  · refine congrArg Host.Outcome.next (State.present_unchanged s _ _ _ free ?_)
    rw [answerConfigure, if_pos hs]
  · refine congrArg Host.Outcome.next (State.present_unchanged s _ _ _ free ?_)
    rw [answerConfigure, if_neg (not_not.mpr hs), if_neg (fun h => out (ranges.mp h))]
  · let record := configOf rate attempts retryBase beacon holdTime holdLevel resumeLevel mask
    have accepted : answerConfigure rate attempts retryBase beacon holdTime holdLevel resumeLevel mask s =
        ⟨s.configured record, .accepted, []⟩ := by
      rw [answerConfigure, if_neg (not_not.mpr hs), if_pos (ranges.mpr inside)]
      rfl
    have unchanged := s.configured_unchanged record
    refine ⟨_, congrArg Host.Outcome.next (State.present_accepted _ free accepted), ?_, ?_, ?_,
      s.configured_station record, fun hn => State.configured_hold hs hn record, s.configured_records record,
      State.setH_h _ _⟩
    · exact (unchanged.append (State.modLink_unchanged _ _)).mono (by decide)
    · refine (s.configured_line record).trans ?_
      cases s.line.receiver <;> rfl
    · exact State.placed_link (unchanged .link (by decide)) _

/-! ### JOIN -/

/-- R43: a drawn epoch is one of 0 to 15 and not the previous one. -/
theorem epochOf_fresh (previous : Option Nat) (value : Nat) :
    epochOf previous value < 16 ∧ previous ≠ some (epochOf previous value) := by
  unfold epochOf
  cases previous with
  | none => exact ⟨Nat.mod_lt _ (by decide), nofun⟩
  | some p =>
    have : value % 15 < 15 := Nat.mod_lt _ (by decide)
    dsimp only
    rw [ne_eq, Option.some_inj]
    split_ifs <;> omega

/-- Outside service the station wants the line for its notices alone (R22, R98). -/
theorem State.wantsLine_of_not_inService {s : State} (hs : s.inService = false) :
    s.wantsLine = s.station.notices.any := by
  simp [State.wantsLine, State.eligible, hs]

/-- The station as an accepted JOIN leaves it (R42), with the epoch drawn. -/
def Station.joining (st : Station) (epoch : Nat) : Station :=
  { st with
    state := .joining
    epoch := epoch
    prevEpoch := some epoch
    faultReason := .none
    beacon := .stopped
    renewal := .runOut
    listen := .running (st.config.beacon * 100) }

/-- An accepted JOIN up to the access controller's leaving OFF (R42). -/
def State.joinCleared (s : State) : State :=
  ((s.takeRandom.modPeers fun _ => Vector.replicate 30 PeerRecord.initial).modStation fun st =>
    st.joining (epochOf s.station.prevEpoch s.nextRandom)).modLine fun l =>
      { l with burst := l.burst.map fun b => { b with ignored := true } }

theorem State.startJoin_eq (s : State) : s.startJoin = s.joinCleared.leaveOff := rfl

theorem State.joinCleared_unchanged (s : State) :
    UnchangedBut [.line, .station, .peers, .generator] s s.joinCleared := by
  intro b hb
  cases b
  case line | station | peers | generator => exact absurd (by decide) hb
  all_goals rfl

theorem State.leaveOff_unchanged (s : State) : UnchangedBut [.access] s s.leaveOff :=
  (s.modAccess_unchanged _).trans (State.applyWants_unchanged _)

theorem State.startJoin_unchanged (s : State) :
    UnchangedBut [.line, .station, .peers, .generator, .access] s s.startJoin :=
  s.joinCleared_unchanged.append s.joinCleared.leaveOff_unchanged

/-- R42: in JOINING with no notice pending the access controller leaves OFF for IDLE. -/
theorem State.startJoin_access {s : State} (hn : s.station.notices = NoticeSet.empty) :
    s.startJoin.access = ⟨.idle, 0, none, none, none, false, s.line.burst.isSome, false⟩ := by
  have wants : s.joinCleared.wantsLine = false := by
    rw [State.wantsLine_of_not_inService rfl]
    show s.station.notices.any = false
    rw [hn]
    rfl
  rw [State.startJoin_eq, State.leaveOff, State.applyWants, if_neg (by simp [wants]), State.modAccess_access]
  simp [State.joinCleared, Access.reset]

theorem State.startJoin_station (s : State) :
    s.startJoin.station = s.station.joining (epochOf s.station.prevEpoch s.nextRandom) :=
  s.joinCleared.leaveOff_unchanged .station (by decide)

theorem State.startJoin_peer (s : State) (a : Nat) : s.startJoin.peer a = PeerRecord.initial :=
  (State.peer_congr (s.joinCleared.leaveOff_unchanged .peers (by decide)) a).trans (State.reset_peer a)

/-- Settles O13: the two refusals, and the state that starts to listen block by block. -/
theorem joinStartsListening : Obligations.JoinStartsListening := by
  unfold Obligations.JoinStartsListening
  refine fun s free => ⟨fun hs => ?_, fun hs ha => ?_, fun hs low high hn => ?_⟩
  · refine congrArg Host.Outcome.next (State.present_unchanged s _ _ _ free ?_)
    rw [answerJoin, if_pos hs]
  · refine congrArg Host.Outcome.next (State.present_unchanged s _ _ _ free ?_)
    rw [answerJoin, if_neg (not_not.mpr hs), if_pos ha]
  · have accepted : answerJoin s = ⟨s.startJoin, .accepted, []⟩ := by
      rw [answerJoin, if_neg (not_not.mpr hs), if_neg (by omega)]
    obtain ⟨bound, fresh⟩ := epochOf_fresh s.station.prevEpoch s.nextRandom
    have left := s.joinCleared.leaveOff_unchanged
    refine ⟨_, _, congrArg Host.Outcome.next (State.present_accepted _ free accepted), ?_, bound, fresh,
      left .generator (by decide), s.startJoin_station, fun a _ => s.startJoin_peer a, s.startJoin_line,
      State.startJoin_access hn, ?_⟩
    · exact (s.startJoin_unchanged.append (State.modLink_unchanged _ _)).mono (by decide)
    · exact State.placed_link (s.startJoin_unchanged .link (by decide)) _

end Sys2Proof.Machine
end

/-! SUPPORT. LEAVE (R51 to R54): its answer in each station state, the watched queues, and what abandoning every message
leaves of a consistent store (R93). -/

section
namespace Sys2Proof.Machine

-- One proof at a time: a thread for each that waits for the same case split can run the checker out of memory.
set_option Elab.async false

/-! ### The answer by mode and station state -/

theorem leaveModeOf_eq_none {mode : Byte} (h0 : mode ≠ 0) (h1 : mode ≠ 1) : leaveModeOf mode = none := by
  rw [leaveModeOf, if_neg h0, if_neg h1]

theorem leaveModeOf_valid {mode : Byte} (h : mode = 0 ∨ mode = 1) : ∃ m, leaveModeOf mode = some m := by
  rcases h with rfl | rfl
  exacts [⟨.drain, rfl⟩, ⟨.abandon, rfl⟩]

section
variable {mode : Byte} {m : LeaveMode} {s : State} (hm : leaveModeOf mode = some m)
include hm

theorem answerLeave_unjoined (hs : s.station.state = .unjoined) : answerLeave mode s = s.unchanged .wrongState := by
  rw [answerLeave, hm]
  simp only [hs]

theorem answerLeave_joining (hs : s.station.state = .joining) :
    answerLeave mode s = ⟨s.leaveJoining, .accepted, []⟩ := by
  rw [answerLeave, hm]
  simp only [hs]

theorem answerLeave_active (hs : s.station.state = .active) :
    answerLeave mode s = ⟨s.startLeave m, .accepted, []⟩ := by
  rw [answerLeave, hm]
  simp only [hs]

theorem answerLeave_leaving (hs : s.station.state = .leaving) :
    answerLeave mode s = ⟨s.changeLeave m, .accepted, []⟩ := by
  rw [answerLeave, hm]
  simp only [hs]

theorem answerLeave_lineFault (hs : s.station.state = .lineFault) :
    answerLeave mode s = ⟨s.abandonAll.enterUnjoined, .accepted, []⟩ := by
  rw [answerLeave, hm]
  simp only [hs]

end

theorem exec_leave_refused {mode : Byte} {s : State} {r : ReplyResult} (free : s.link.reply = none)
    (h : answerLeave mode s = s.unchanged r) : exec (.leave mode) s =
      .next { s with link := { s.link with reply := some ⟨0x04, r, []⟩ } } :=
  congrArg Host.Outcome.next (State.present_unchanged s _ _ _ free h)

/-- The reply ACCEPTED to LEAVE in the slot (R164). -/
def State.leaveAccepted (u : State) : State := u.modLink fun l => { l with reply := some ⟨0x04, .accepted, []⟩ }

theorem exec_leave_accepted {mode : Byte} {s u : State} (free : s.link.reply = none)
    (h : answerLeave mode s = ⟨u, .accepted, []⟩) : exec (.leave mode) s = .next u.leaveAccepted :=
  congrArg Host.Outcome.next (State.present_accepted _ free h)

theorem State.leaveAccepted_unchanged {changed : List Block} {s u : State} (h : UnchangedBut changed s u) :
    UnchangedBut (changed ++ [.link]) s u.leaveAccepted := h.append (u.modLink_unchanged _)

/-! ### DRAIN -/

theorem State.queuesEmpty_eq (s : State) :
    s.queuesEmpty = decide (∀ d ∈ List.range' 1 31, s.queue d = []) := by
  rw [Bool.eq_iff_iff]
  simp [State.queuesEmpty, destinations, Config.queues]

/-- R52 in LEAVING: the LEAVE notice is placed if every destination queue is empty. -/
theorem State.watchQueues_leaving {s : State} (hs : s.station.state = .leaving) :
    s.watchQueues = s.modStation fun st =>
      { st with notices := { st.notices with leave := st.notices.leave || s.queuesEmpty } } := by
  unfold State.watchQueues
  cases hq : s.queuesEmpty with
  | true => simp [hs]
  | false => simp [State.modStation]

/-- The station in LEAVING with that mode, the HOLD notice re-evaluated (R51, R50). -/
def State.leaving (s : State) (mode : LeaveMode) : State :=
  (s.modStation fun st => { st with state := .leaving, leaveMode := some mode }).reevalHold

theorem State.leaving_unchanged (s : State) (mode : LeaveMode) : UnchangedBut [.station] s (s.leaving mode) :=
  (s.modStation_unchanged _).trans (State.modStation_unchanged _ _)

theorem State.startLeave_drain (s : State) : s.startLeave .drain =
    ((s.leaving .drain).modStation fun st =>
      { st with notices := { st.notices with leave := st.notices.leave || s.queuesEmpty } }).applyWants :=
  congrArg State.applyWants (State.watchQueues_leaving (s := s.leaving .drain) rfl)

/-- Settles O14: the leave is one change of the station, and then R22. -/
theorem leaveDrains : Obligations.LeaveDrains := by
  unfold Obligations.LeaveDrains
  intro s free hs
  have accepted := exec_leave_accepted free (answerLeave_active (mode := 0) (m := .drain) rfl hs)
  rw [s.startLeave_drain, State.applyWants_eq, s.queuesEmpty_eq] at accepted
  refine ⟨_, accepted, ?_, rfl, rfl, rfl, rfl⟩
  exact (State.leaveAccepted_unchanged (((s.leaving_unchanged .drain).append (State.modStation_unchanged _ _)).append
    (State.modAccess_unchanged _ _))).mono (by decide)

/-! ### ABANDON -/

/-- A queue after the others are resolved is as it was, so resolving queue after queue resolves their slots in order. -/
theorem State.foldl_resolveQueue {s : State} (h : StoreConsistent s) (r : MsgResult) {ds : List Nat}
    (distinct : ds.Nodup) : ds.foldl (fun s d => s.resolveQueue d r) s =
      (ds.flatMap s.queue).foldl (State.resolveWaiting r) s := by
  induction ds generalizing s with
  | nil => rfl
  | cons d ds ih =>
    obtain ⟨hd, distinct⟩ := List.nodup_cons.mp distinct
    have first := State.resolveQueue_resolves h d r
    have later : ds.flatMap (s.resolveQueue d r).queue = ds.flatMap s.queue := by
      refine List.flatMap_congr fun e he => ?_
      have hne : d ≠ e := fun hde => hd (hde ▸ he)
      rw [first.queue, List.filter_eq_self]
      intro j hj
      simp [h.notMem_queue hj hne]
    rw [List.foldl_cons, ih first.consistent distinct, later, List.flatMap_cons, List.foldl_append]
    rfl

/-- A slot stands once in all queues together (R83). -/
theorem StoreConsistent.nodup_queues {s : State} (h : StoreConsistent s) {ds : List Nat} (distinct : ds.Nodup) :
    (ds.flatMap s.queue).Nodup := by
  refine List.nodup_flatMap.mpr ⟨fun d _ => h.nodup_queue d, distinct.imp fun hne i hi hj => ?_⟩
  exact h.notMem_queue hi (Ne.symm hne) hj

theorem destinations_nodup : destinations.Nodup := List.nodup_range'

/-- Every waiting message resolved ABANDONED, before the marks (R93). -/
def State.abandonWaiting (s : State) : State := destinations.foldl (fun s d => s.resolveQueue d .abandoned) s

theorem State.abandonAll_eq (s : State) :
    s.abandonAll = destinations.foldl (fun s d => s.markQueue d .abandoned) s.abandonWaiting := rfl

theorem State.abandonWaiting_resolves {s : State} (h : StoreConsistent s) :
    ResolvesWaiting .abandoned (destinations.flatMap s.queue) s s.abandonWaiting := by
  rw [State.abandonWaiting, State.foldl_resolveQueue h _ destinations_nodup]
  exact State.foldl_resolveWaiting h _ (h.nodup_queues destinations_nodup)

/-- Marking queue after queue marks the slots of all of them. -/
theorem State.foldl_markQueue_slot (k : Mark) (ds : List Nat) (s : State) (j : Nat) :
    (ds.foldl (fun s d => s.markQueue d k) s).slot j =
      if j ∈ ds.flatMap s.queue then (s.slot j).withMark k else s.slot j := by
  induction ds generalizing s with
  | nil => rfl
  | cons d ds ih =>
    have same : ds.flatMap (s.markQueue d k).queue = ds.flatMap s.queue :=
      List.flatMap_congr fun e _ => s.markQueue_queue d k e
    rw [List.foldl_cons, ih, same, State.markQueue_slot, List.flatMap_cons]
    by_cases hd : j ∈ s.queue d <;> by_cases hds : j ∈ ds.flatMap s.queue <;>
      simp [hd, hds, Slot.withMark_withMark]

theorem State.abandonAll_owed {s : State} (h : StoreConsistent s) :
    s.abandonAll.owedOutcomes = s.owedOutcomes ++ destinations.flatMap (s.bulkOutcomes .abandoned) := by
  have marked : s.abandonAll.owedOutcomes = s.abandonWaiting.owedOutcomes :=
    foldl_keeps _ State.owedOutcomes (fun s d => s.markQueue_owed d _) _ _
  rw [marked, (State.abandonWaiting_resolves h).owed, List.filterMap_flatMap]
  rfl

theorem State.abandonAll_queue {s : State} (h : StoreConsistent s) {d : Nat} (hd : d ∈ destinations) :
    s.abandonAll.queue d = (s.queue d).filter fun i => (s.bulkOutcome .abandoned i).isNone := by
  have marked : s.abandonAll.queue d = s.abandonWaiting.queue d :=
    foldl_keeps _ (fun s => s.queue d) (fun s e => s.markQueue_queue e _ d) _ _
  rw [marked, (State.abandonWaiting_resolves h).queue]
  refine List.filter_congr fun j hj => ?_
  have there : j ∈ destinations.flatMap s.queue := List.mem_flatMap.mpr ⟨d, hd, hj⟩
  simp [there]

/-- R90, R93: a message that does not wait stays, with a mark. -/
theorem State.abandonAll_slot {s : State} (h : StoreConsistent s) {d j : Nat} (hd : d ∈ destinations)
    (hj : j ∈ s.queue d) (hb : s.bulkOutcome .abandoned j = none) :
    s.abandonAll.slot j = (s.slot j).withMark .abandoned := by
  have resolves := State.abandonWaiting_resolves h
  have stays : j ∈ s.abandonWaiting.queue d := by
    rw [resolves.queue]
    exact List.mem_filter.mpr ⟨hj, by simp [hb]⟩
  rw [State.abandonAll_eq, State.foldl_markQueue_slot, if_pos (List.mem_flatMap.mpr ⟨d, hd, stays⟩),
    resolves.slot j (.inr hb)]

/-- A message in a queue that does not wait is ON_LINE or AWAIT_REPLY, so with a mark once it is marked. -/
theorem State.isMarked_of_withMark {s t : State} {i : Nat} {m : Message} {k : Mark} (hm : (s.slot i).msg = some m)
    (hl : m.Live) (hb : s.bulkOutcome k.result i = none) (ht : t.slot i = (s.slot i).withMark k) :
    t.isMarked i = true := by
  rw [State.isMarked, ht, Slot.withMark, hm]
  rw [State.bulkOutcome, hm] at hb
  obtain ⟨dest, cls, payload, attempts, seq, state⟩ := m
  cases state with
  | queued => cases hb
  | retryWait ms => cases hb
  | done r => exact absurd rfl (hl r)
  | onLine mark => rfl
  | awaitReply mark => rfl

/-- R93: what abandoning every message leaves in each queue. -/
theorem State.abandonAll_leavesMarked {s : State} (h : StoreConsistent s) {d : Nat} (hd : d ∈ destinations) :
    LeavesMarked s s.abandonAll .abandoned d := by
  have queue := State.abandonAll_queue h hd
  refine ⟨queue, fun i hi => ?_⟩
  rw [queue, List.mem_filter, Option.isNone_iff_eq_none] at hi
  obtain ⟨hi, hb⟩ := hi
  obtain ⟨m, hm, hl, -⟩ := h.of_mem_queue hi
  have slot := State.abandonAll_slot h hd hi hb
  exact ⟨State.isMarked_of_withMark (k := .abandoned) hm hl hb slot, slot⟩

theorem State.abandonAll_moves (s : State) : Moves s s.abandonAll :=
  (Moves.foldl (fun s d => s.resolveQueue_moves d .abandoned) destinations s).trans
    (Moves.foldl (fun s d => s.markQueue_moves d .abandoned) destinations _)

/-- What abandoning every message leaves of the messages of a consistent part (R93). -/
structure Abandons (s t : State) : Prop where
  owed : t.owedOutcomes = s.owedOutcomes ++ destinations.flatMap (s.bulkOutcomes .abandoned)
  queues : ∀ d ∈ destinations, LeavesMarked s t .abandoned d

/-- Only the messages and the outcomes owed matter, before and after. -/
theorem Abandons.of_blocks {s s' t t' : State} (h : Abandons s' t') (hs : s'.outbound = s.outbound)
    (hso : s'.outcomes = s.outcomes) (ht : t.outbound = t'.outbound) (hto : t.outcomes = t'.outcomes) :
    Abandons s t := by
  have slot := State.slot_congr hs
  have bulk (r : MsgResult) : s'.bulkOutcome r = s.bulkOutcome r :=
    funext fun i => State.bulkOutcome_congr (slot i) r
  have bulks : s'.bulkOutcomes .abandoned = s.bulkOutcomes .abandoned :=
    funext fun d => State.bulkOutcomes_congr (State.queue_congr hs d) (fun i _ => slot i) _
  have owed : s'.owedOutcomes = s.owedOutcomes :=
    State.owedOutcomes_congr hso fun i _ => State.doneOutcome_congr (slot i)
  have owed' : t.owedOutcomes = t'.owedOutcomes :=
    State.owedOutcomes_congr hto fun i _ => State.doneOutcome_congr (State.slot_congr ht i)
  refine ⟨by rw [owed', h.owed, owed, bulks], fun d hd => ?_⟩
  obtain ⟨queue, marked⟩ := h.queues d hd
  have queue' : t.queue d = t'.queue d := State.queue_congr ht d
  refine ⟨by rw [queue', queue, State.queue_congr hs, bulk], fun i hi => ?_⟩
  obtain ⟨mark, kept⟩ := marked i (queue' ▸ hi)
  refine ⟨?_, by rw [State.slot_congr ht, kept, slot]⟩
  rw [State.isMarked, State.slot_congr ht]
  exact mark

/-- R93 where the store is that of a state before. -/
theorem State.abandonAll_abandons {s u : State} (h : StoreConsistent s) (hu : UnchangedBut [.station] s u) :
    Abandons s u.abandonAll := by
  have outbound : u.outbound = s.outbound := hu .outbound (by decide)
  have outcomes : u.outcomes = s.outcomes := hu .outcomes (by decide)
  have consistent := h.of_blocks outbound outcomes
  exact Abandons.of_blocks (s' := u) ⟨State.abandonAll_owed consistent, fun _ hd =>
    State.abandonAll_leavesMarked consistent hd⟩ outbound outcomes rfl rfl

/-- The station is in LEAVING by ABANDON, with no message resolved yet (R51, R54). -/
structure StartsAbandoning (s v : State) : Prop where
  unchanged : UnchangedBut [.station] s v
  station : v.station = { s.station with
    state := .leaving
    leaveMode := some .abandon
    notices := { s.station.notices with hold := v.station.notices.hold } }

/-- R51, R54: in both states LEAVE with ABANDON sets the mode, abandons every message, and then R22 applies. -/
theorem answerLeave_abandon {s : State} (h : StoreConsistent s)
    (hs : s.station.state = .active ∨ (s.station.state = .leaving ∧ s.station.leaveMode = some .drain)) :
    ∃ v u, StartsAbandoning s v ∧ Moves v u ∧ Abandons s u ∧ answerLeave 1 s = ⟨u.applyWants, .accepted, []⟩ := by
  rcases hs with hs | ⟨hs, hd⟩
  · have started := s.leaving_unchanged .abandon
    refine ⟨_, (s.leaving .abandon).abandonAll.watchQueues, ⟨started, rfl⟩,
      (State.abandonAll_moves _).trans (State.watchQueues_moves _), ?_, answerLeave_active (m := .abandon) rfl hs⟩
    exact Abandons.of_blocks (State.abandonAll_abandons h started) rfl rfl (State.watchQueues_outbound _)
      (State.watchQueues_outcomes _)
  · have started := s.modStation_unchanged fun st => { st with leaveMode := some .abandon }
    refine ⟨_, _, ⟨started, by rw [State.modStation_station, ← hs]⟩, State.abandonAll_moves _,
      State.abandonAll_abandons h started, (answerLeave_leaving (m := .abandon) rfl hs).trans ?_⟩
    rw [State.changeLeave, if_pos ⟨rfl, hd⟩]

/-- Settles O15: what the mode changes of the station, what the abandoning leaves of the messages, and R22. -/
theorem leaveAbandons : Obligations.LeaveAbandons := by
  unfold Obligations.LeaveAbandons
  intro s free h hs
  obtain ⟨v, u, starts, moves, abandons, accepted⟩ := answerLeave_abandon h hs
  have wants := u.applyWants_unchanged
  have unchanged := (starts.unchanged.append moves.unchanged).append wants
  obtain ⟨settles, -, -⟩ := moves
  have station : u.applyWants.leaveAccepted.station = { s.station with
      state := .leaving
      leaveMode := some .abandon
      notices := { s.station.notices with
        hold := u.applyWants.leaveAccepted.station.notices.hold
        leave := u.applyWants.leaveAccepted.station.notices.leave } } := by
    have same : u.applyWants.leaveAccepted.station = u.station := u.applyWants_station
    rw [same, settles.station, starts.station]
  have left := Abandons.of_blocks (t := u.applyWants.leaveAccepted) abandons rfl rfl (wants .outbound (by decide))
    (wants .outcomes (by decide))
  refine ⟨_, exec_leave_accepted free accepted, (State.leaveAccepted_unchanged unchanged).mono (by decide),
    State.placed_link (unchanged .link (by decide)) _, by rw [station], by rw [station], station, left.owed,
    fun d hd i hi => ?_, left.queues⟩
  obtain ⟨queue, -⟩ := left.queues d hd
  rw [queue] at hi
  exact (List.mem_filter.mp hi).1

/-! ### Elsewhere -/

/-- R54: LEAVE in JOINING ends the join, outside the sending of its notice. -/
theorem State.enterUnjoined_unchanged {s : State} (h : s.access.state ≠ .awaitReply) :
    UnchangedBut [.station, .peers, .access] s s.enterUnjoined := by
  rw [State.enterUnjoined_outside h]
  exact ((s.modStation_unchanged _).append (State.modPeers_unchanged _ _)).append (State.modAccess_unchanged _ _)

theorem State.enterUnjoined_station {s : State} (h : s.access.state ≠ .awaitReply) :
    s.enterUnjoined.station = s.station.unjoin := by
  rw [State.enterUnjoined_outside h]
  rfl

/-- R53, R62: the peer records stay, with their timers stopped. -/
theorem State.enterUnjoined_peersKept {s : State} (h : s.access.state ≠ .awaitReply) : PeersKept s s.enterUnjoined := by
  intro a
  rw [State.enterUnjoined_outside h]
  exact State.peer_modPeers_map s PeerRecord.stopTimers rfl a

/-- R54: a second LEAVE that is no ABANDON of a DRAIN changes nothing. -/
theorem State.changeLeave_same {s : State} {m : LeaveMode} (h : m = .drain ∨ s.station.leaveMode ≠ some .drain) :
    s.changeLeave m = s := by
  refine if_neg fun ⟨hm, hd⟩ => ?_
  rcases h with rfl | h
  exacts [LeaveMode.noConfusion hm, h hd]

/-- R53, R54: LEAVE in LINE_FAULT, block by block. -/
theorem exec_leave_lineFault {mode : Byte} {m : LeaveMode} {s : State} (hm : leaveModeOf mode = some m)
    (free : s.link.reply = none) (hs : s.station.state = .lineFault) (hoff : s.access.state = .off)
    (h : StoreConsistent s) :
    ∃ t, exec (.leave mode) s = .next t ∧
      UnchangedBut [.access, .station, .peers, .outbound, .outcomes, .link] s t ∧
      t.link = { s.link with reply := some ⟨0x04, .accepted, []⟩ } ∧
      t.station.state = .unjoined ∧ t.station.faultReason = s.station.faultReason ∧
      t.station.stateChange = s.station.stateChange ∧ t.station.notices = NoticeSet.empty ∧
      t.access.state = .off ∧ PeersKept s t ∧
      t.owedOutcomes = s.owedOutcomes ++ destinations.flatMap (s.bulkOutcomes .abandoned) := by
  have accepted := exec_leave_accepted free (answerLeave_lineFault hm hs)
  have moves := s.abandonAll_moves
  have abandons := State.abandonAll_abandons h (.refl _ s)
  generalize s.abandonAll = u at accepted moves abandons
  have hw : u.access.state ≠ .awaitReply := by
    rw [(moves.unchanged .access (by decide) : u.access = s.access), hoff]
    nofun
  have left := State.enterUnjoined_unchanged hw
  have unchanged := moves.unchanged.append left
  obtain ⟨settles, peers, -⟩ := moves
  have station := (State.enterUnjoined_station hw).trans (congrArg Station.unjoin settles.station)
  have owed := (Abandons.of_blocks (t := u.enterUnjoined.leaveAccepted) abandons rfl rfl (left .outbound (by decide))
    (left .outcomes (by decide))).owed
  refine ⟨_, accepted, (State.leaveAccepted_unchanged unchanged).mono (by decide),
    State.placed_link (unchanged .link (by decide)) _, u.enterUnjoined_state,
    (congrArg Station.faultReason station :), (congrArg Station.stateChange station :),
    (congrArg Station.notices station :), congrArg Access.state u.enterUnjoined_access, fun a => ?_, owed⟩
  refine (State.enterUnjoined_peersKept hw a).trans ?_
  rw [State.peer_congr peers]

/-- Settles O16: the answer in each station state, and for a mode that is none. -/
theorem leaveElsewhere : Obligations.LeaveElsewhere := by
  unfold Obligations.LeaveElsewhere
  refine fun mode s free => ⟨fun h0 h1 => ?_, fun valid => ?_⟩
  · refine exec_leave_refused free ?_
    rw [answerLeave, leaveModeOf_eq_none h0 h1]
  obtain ⟨m, hm⟩ := leaveModeOf_valid valid
  refine ⟨fun hs => exec_leave_refused free (answerLeave_unjoined hm hs), fun hs hsends => ?_, fun hs hn hw => ?_,
    fun hs hoff h => exec_leave_lineFault hm free hs hoff h, fun hs same => ?_⟩
  · rw [exec_leave_accepted free (answerLeave_joining hm hs), State.leaveJoining, if_pos hsends]
    rfl
  · have left := State.enterUnjoined_unchanged hw
    have accepted := exec_leave_accepted free (answerLeave_joining hm hs)
    rw [State.leaveJoining, if_neg hn] at accepted
    refine ⟨_, accepted, (State.leaveAccepted_unchanged left).mono (by decide), ?_, State.enterUnjoined_station hw,
      State.enterUnjoined_peersKept hw, State.enterUnjoined_access s⟩
    exact State.placed_link (left .link (by decide)) _
  · refine exec_leave_refused free ((answerLeave_leaving hm hs).trans ?_)
    rw [State.changeLeave_same (same.imp_left fun h0 => ?_)]
    · rfl
    · subst h0
      exact (Option.some.inj hm).symm

end Sys2Proof.Machine
end

/-! SUPPORT. The timers of the station controller (R44, R49, R50): what each does when it runs out, and R22 after it. -/

section
namespace Sys2Proof.Machine

theorem State.inService_eq (s : State) :
    s.inService = decide (s.station.state = .active ∨ s.station.state = .leaving) := (Bool.decide_or _ _).symm

/-- R50, the hold condition in words. -/
theorem State.holdCondition_iff (s : State) : s.holdCondition = true ↔
    (s.station.state = .active ∨ s.station.state = .leaving) ∧
      (s.inbound.h ≠ s.station.lastSentH ∨ (s.inbound.h = true ∧ s.station.renewal = .runOut)) := by
  simp [State.holdCondition, State.inService]

/-- A pending notice is sent when the line is free (R22). -/
theorem State.wantsLine_of_notice {s : State} (h : s.station.notices.any = true) : s.wantsLine = true := by
  rw [State.wantsLine, h, Bool.true_or]

/-- What a change of the station and R22 after it leave of the blocks. -/
theorem State.applyWants_after {s t : State} (h : UnchangedBut [.station] s t) :
    UnchangedBut [.access, .station] s t.applyWants :=
  (h.append t.applyWants_unchanged).mono (by decide)

theorem State.placeNotice_unchanged (s : State) (r : Reason) : UnchangedBut [.station] s (s.placeNotice r) :=
  s.modStation_unchanged _

/-- After a change of the station only, an access controller outside IDLE stands. -/
theorem State.applyWants_access_of_not_idle {s t : State} (h : UnchangedBut [.station] s t)
    (hs : s.access.state ≠ .idle) : t.applyWants.access = s.access := by
  have same : t.access = s.access := h .access (by decide)
  rw [State.applyWants_of_not_idle (by rwa [same]), same]

/-- After a change of the station that leaves a notice pending, an IDLE access controller contends. -/
theorem State.applyWants_contends {s t : State} (h : UnchangedBut [.station] s t) (hs : s.access.state = .idle)
    (hn : t.station.notices.any = true) : t.applyWants.access.state = if s.lineIdle = true then .gap else .defer := by
  have same : t.access = s.access := h .access (by decide)
  have line : t.line = s.line := h .line (by decide)
  rw [State.applyWants_state (by rw [same, hs]) (State.wantsLine_of_notice hn), State.lineIdle, State.lineIdle, line]

/-! ### The timers that run out -/

/-- R44: the state in which R22 applies. -/
def State.joinListened (s : State) : State :=
  (s.modStation fun st => { st with listen := .stopped }).placeNotice .join

theorem State.listenOut_due {s : State} (hd : s.station.listen.due = true) (hs : s.station.state = .joining) :
    s.listenOut = s.joinListened.applyWants := if_pos ⟨hd, hs⟩

theorem State.joinListened_unchanged (s : State) : UnchangedBut [.station] s s.joinListened :=
  (s.modStation_unchanged _).trans (State.placeNotice_unchanged _ _)

/-- R49 in service. -/
def State.beaconPlaced (s : State) : State :=
  (s.modStation fun st => { st with beacon := .runOut }).placeNotice .beacon

theorem State.beaconOut_serving {s : State} (hd : s.station.beacon.due = true) (hs : s.inService = true) :
    s.beaconOut = s.beaconPlaced.applyWants := by
  rw [State.beaconOut, if_pos hd]
  exact if_pos hs

theorem State.beaconOut_elsewhere {s : State} (hd : s.station.beacon.due = true) (hs : s.inService = false) :
    s.beaconOut = s.modStation fun st => { st with beacon := .runOut } := by
  rw [State.beaconOut, if_pos hd]
  exact if_neg (by simp [hs])

theorem State.beaconPlaced_unchanged (s : State) : UnchangedBut [.station] s s.beaconPlaced :=
  (s.modStation_unchanged _).trans (State.placeNotice_unchanged _ _)

/-- R50: the hold condition re-evaluated with the renewal timer run out. -/
def State.renewed (s : State) : State := (s.modStation fun st => { st with renewal := .runOut }).reevalHold

theorem State.renewalOut_due {s : State} (hd : s.station.renewal.due = true) :
    s.renewalOut = s.renewed.applyWants := if_pos hd

theorem State.renewed_unchanged (s : State) : UnchangedBut [.station] s s.renewed :=
  (s.modStation_unchanged _).trans (State.modStation_unchanged _ _)

/-- With the renewal timer run out the condition holds in service unless H is 0 and was last sent 0 (R50). -/
theorem State.renewed_station (s : State) : s.renewed.station = { s.station with
    renewal := .runOut
    notices := { s.station.notices with hold := s.inService && (s.inbound.h || s.station.lastSentH) } } := by
  have condition : (s.modStation fun st => { st with renewal := .runOut }).holdCondition =
      (s.inService && (s.inbound.h || s.station.lastSentH)) := by
    show (s.inService && (s.inbound.h != s.station.lastSentH || (s.inbound.h && decide (Timer.runOut = .runOut)))) = _
    cases s.inbound.h <;> cases s.station.lastSentH <;> rfl
  rw [← condition]
  rfl

/-! ### The timers that have not run out -/

theorem Timer.not_due_of_lt {t : Timer} {ms : Nat} (h : ∀ left, t = .running left → ms < left) :
    ¬ (t.countDown ms).due = true := by
  rw [Timer.countDown_due]
  rintro ⟨left, ht, hle⟩
  exact absurd (h left ht) (by omega)

/-- Settles O37: the hold condition, and each timer run out or not. -/
theorem stationTimersPlaceNotices : Obligations.StationTimersPlaceNotices := by
  unfold Obligations.StationTimersPlaceNotices
  refine ⟨State.holdCondition_iff, fun s elapsed => ⟨fun ms hrun hle hs => ?_, fun ms hrun hle => ?_,
    fun ms hrun hle => ?_, fun h => ?_, fun h => ?_, fun h => ?_⟩⟩
  · have due := (s.station.listen.countDown_due elapsed).mpr ⟨ms, hrun, hle⟩
    have changed := (s.elapse elapsed).joinListened_unchanged
    have stands := State.applyWants_access_of_not_idle changed
    have contends (hi) := State.applyWants_contends changed hi rfl
    exact ⟨_, congrArg Host.Outcome.next (State.listenOut_due due hs), State.applyWants_after changed,
      State.applyWants_station _, contends, stands⟩
  · have due := (s.station.beacon.countDown_due elapsed).mpr ⟨ms, hrun, hle⟩
    rw [← s.inService_eq]
    cases hs : s.inService with
    | true =>
      have changed := (s.elapse elapsed).beaconPlaced_unchanged
      have pending : (s.elapse elapsed).beaconPlaced.station.notices.any = true := by
        simp [State.beaconPlaced, State.placeNotice, NoticeSet.place, NoticeSet.any]
      have stands := State.applyWants_access_of_not_idle changed
      have contends (hi) := State.applyWants_contends changed hi pending
      refine ⟨_, congrArg Host.Outcome.next (State.beaconOut_serving due hs), State.applyWants_after changed, ?_,
        stands, fun hi _ => contends hi⟩
      rw [State.applyWants_station, Bool.or_true]
      rfl
    | false =>
      refine ⟨_, congrArg Host.Outcome.next (State.beaconOut_elsewhere due hs),
        (State.modStation_unchanged _ _).mono (by decide), ?_, fun _ => rfl, nofun⟩
      rw [Bool.or_false]
      rfl
  · have due := (s.station.renewal.countDown_due elapsed).mpr ⟨ms, hrun, hle⟩
    have changed := (s.elapse elapsed).renewed_unchanged
    have stands := State.applyWants_access_of_not_idle changed
    refine ⟨_, congrArg Host.Outcome.next (State.renewalOut_due due), State.applyWants_after changed, ?_, stands,
      State.applyWants_idle _⟩
    rw [State.applyWants_station, State.renewed_station, ← s.inService_eq]
    rfl
  · exact congrArg Host.Outcome.next (if_neg fun ⟨due, _⟩ => Timer.not_due_of_lt h due)
  · exact congrArg Host.Outcome.next (if_neg (Timer.not_due_of_lt h))
  · exact congrArg Host.Outcome.next (if_neg (Timer.not_due_of_lt h))

end Sys2Proof.Machine
end

/-! SUPPORT. The timers of the peers, the listen timer and the beacon timer (R53, R62, R66, R72): which operations start
none, and that those that start one do so outside UNJOINED. -/

section
namespace Sys2Proof.Machine

-- One proof at a time: a thread for each that waits for the same case split can run the checker out of memory.
set_option Elab.async false

/-! ### What an operation leaves of the peer records -/

/-- After a change of one record an address reads as before, or it is the changed one. -/
theorem State.peer_modPeer_cases (s : State) (a b : Nat) (f : PeerRecord → PeerRecord) :
    (s.modPeer a f).peer b = s.peer b ∨ (b = a ∧ (s.modPeer a f).peer b = f (s.peer a)) := by
  by_cases hb : b = a
  · subst hb
    by_cases range : b ≠ 0 ∧ b ≤ 30
    · obtain ⟨low, high⟩ := range
      exact .inr ⟨rfl, s.peer_modPeer_self b f low high⟩
    · exact .inl (by rw [State.peer_outside _ b (by omega), State.peer_outside _ b (by omega)])
  · exact .inl (s.peer_modPeer_other a b f hb)

theorem State.elapse_peer (s : State) (ms a : Nat) : (s.elapse ms).peer a = (s.peer a).countDown ms :=
  s.peer_modPeers_map (PeerRecord.countDown ms) rfl a

/-- R111: no record changes, or the destination is SILENT by exhaustion (R69). -/
theorem State.settleNoReply_peers (s : State) (i : Nat) (m : Message) (mark : Option Mark) :
    (s.settleNoReply i m mark).peers = s.peers ∨
      (s.settleNoReply i m mark).peers = (s.modPeer m.dest PeerRecord.silenced).peers := by
  unfold State.settleNoReply
  split
  · exact .inl (s.resolve_moves i _).2.1
  · split_ifs
    · refine .inr ((State.makeSilent_moves _ _).2.1.trans ?_)
      exact State.modPeer_peers_congr (s.resolve_moves i _).2.1 _ _
    · exact .inl (s.modMessage_peers i _)

/-- Table 6-2: a hold order for the destination, its end by exhaustion (R69), or no record changes. -/
theorem State.settleMessage_peers (s : State) (i : Nat) (m : Message) (mark : Option Mark) (w : WindowResult) :
    (s.settleMessage i m mark w).peers = s.peers ∨
      (w = .refuse ∧ (s.settleMessage i m mark w).peers = (s.holdPeer m.dest).peers) ∨
      (w = .noReply ∧ (s.settleMessage i m mark w).peers = (s.modPeer m.dest PeerRecord.silenced).peers) := by
  cases w with
  | ack => exact .inl (s.resolve_moves i _).2.1
  | refuse =>
    refine .inr (.inl ⟨rfl, ?_⟩)
    have restored := (s.holdPeer m.dest).modMessage_moves i fun m => { m with attempts := m.attempts - 1 }
    cases mark with
    | none => exact (restored.trans (State.modMessage_moves _ i _)).2.1
    | some k => exact (restored.trans (State.resolve_moves _ i _)).2.1
  | noReply => exact (s.settleNoReply_peers i m mark).imp_right fun h => .inr ⟨rfl, h⟩

theorem State.settleWindow_peers (s : State) (w : WindowResult) :
    (s.settleWindow w).peers = s.peers ∨
      (∃ a, w = .refuse ∧ (s.settleWindow w).peers = (s.holdPeer a).peers) ∨
      (∃ a, w = .noReply ∧ (s.settleWindow w).peers = (s.modPeer a PeerRecord.silenced).peers) := by
  unfold State.settleWindow
  split
  · split
    · exact .inl rfl
    · next m _ =>
      split
      · exact (s.settleMessage_peers _ m _ w).imp_right (.imp (⟨_, ·⟩) (⟨_, ·⟩))
      · exact .inl rfl
  · exact .inl rfl

theorem State.withdrawInFlight_peers (s : State) : s.withdrawInFlight.peers = s.peers := by
  unfold State.withdrawInFlight
  split
  · split
    · rfl
    · split
      exacts [(s.resolve_moves _ _).2.1, s.modMessage_peers _ _, rfl]
  · rfl

theorem State.completeInFlight_peers (s : State) : s.completeInFlight.peers = s.peers := by
  unfold State.completeInFlight
  split
  · split
    · rfl
    · split
      · dsimp only
        split
        · exact ((s.modMessage_moves _ _).trans (State.resolve_moves _ _ _)).2.1
        · exact ((s.modMessage_moves _ _).trans (State.modMessage_moves _ _ _)).2.1
      · rfl
  · rfl

theorem State.freeDone_moves (s : State) (i : Nat) : Moves s (s.freeDone i) := by
  unfold State.freeDone
  exact ite_keeps (.refl s) fun _ => ⟨s.setSlot_settles i _, rfl, rfl⟩

theorem State.refill_moves (s : State) : Moves s s.refill :=
  Moves.trans ⟨s.modOutcomes_settles _, rfl, rfl⟩ (.foldl State.freeDone_moves _ _)

/-- R120: of the records routing a frame changes its sender's last accepted sequence at most. -/
theorem State.route_peers (s : State) {f : Frame} (h : f.kind ≠ .notice .leave) :
    (s.route f).peers = s.peers ∨
      (s.route f).peers = (s.modPeer f.source fun p => { p with lastAccepted := some f.seq }).peers := by
  have data : (s.receiveData f).peers = s.peers ∨
      (s.receiveData f).peers = (s.modPeer f.source fun p => { p with lastAccepted := some f.seq }).peers := by
    unfold State.receiveData
    split_ifs
    · exact .inl rfl
    · exact .inl rfl
    · have appended : ((s.appendData f).answer .ack f).peers = _ := State.setH_peers _ _
      exact .inr (appended.trans (State.modPeer_peers_congr (s := s) (t := s.listRecord _) rfl _ _))
    · exact .inl rfl
  unfold State.route
  split
  · split_ifs
    exacts [data, .inl rfl]
  · split_ifs
    exacts [.inl (s.receiveDatagram_peers f), .inl rfl]
  · split_ifs <;> exact .inl rfl
  · split_ifs <;> exact .inl rfl
  · next hleave => exact absurd hleave h
  · exact .inl rfl

/-! ### Operations that start no timer -/

/-- `q` keeps a governed record governed, and has no timer running that `p` has not. -/
structure PeerRecord.Calmer (p q : PeerRecord) : Prop where
  governed : p.TimersGoverned → q.TimersGoverned
  presence : q.presenceTimer.runs = true → p.presenceTimer.runs = true
  hold : q.holdTimer.runs = true → p.holdTimer.runs = true

theorem PeerRecord.Calmer.refl (p : PeerRecord) : p.Calmer p := ⟨id, id, id⟩

theorem PeerRecord.Calmer.trans {p q r : PeerRecord} (h : p.Calmer q) (k : q.Calmer r) : p.Calmer r :=
  ⟨k.governed ∘ h.governed, h.presence ∘ k.presence, h.hold ∘ k.hold⟩

theorem PeerRecord.silenced_calmer (p : PeerRecord) : p.Calmer p.silenced := ⟨fun ⟨_, hold⟩ => ⟨nofun, hold⟩, nofun, id⟩

/-- R72: an OPEN record with its hold timer stopped, as a lapse or a departure leaves it. -/
theorem PeerRecord.opened_calmer (p : PeerRecord) (epoch lastAccepted : Option Nat) : p.Calmer
    { p with epoch := epoch, lastAccepted := lastAccepted, held := false, holdTimer := .stopped } :=
  ⟨fun ⟨presence, _⟩ => ⟨presence, nofun⟩, id, nofun⟩

theorem PeerRecord.countDown_calmer (ms : Nat) (p : PeerRecord) : p.Calmer (p.countDown ms) := by
  simp only [PeerRecord.countDown]
  exact ⟨fun ⟨presence, hold⟩ => ⟨by simpa using presence, by simpa using hold⟩, by simp, by simp⟩

/-- No timer that the invariant speaks of starts, and neither the station state nor OFF is entered or left. -/
structure StartsNoTimer (s t : State) : Prop where
  off : t.access.state = .off ↔ s.access.state = .off
  state : t.station.state = s.station.state
  listen : t.station.listen.runs = true → s.station.listen.runs = true
  beacon : t.station.beacon.runs = true → s.station.beacon.runs = true
  peer : ∀ a, (s.peer a).Calmer (t.peer a)

namespace StartsNoTimer

theorem trans {s t u : State} (h : StartsNoTimer s t) (k : StartsNoTimer t u) : StartsNoTimer s u :=
  ⟨k.off.trans h.off, k.state.trans h.state, h.listen ∘ k.listen, h.beacon ∘ k.beacon,
    fun a => (h.peer a).trans (k.peer a)⟩

/-- The station and the records stand. -/
theorem of_blocks {s t : State} (hs : t.station = s.station) (hp : t.peers = s.peers)
    (off : t.access.state = .off ↔ s.access.state = .off) : StartsNoTimer s t := by
  refine ⟨off, by rw [hs], by rw [hs]; exact id, by rw [hs]; exact id, fun a => ?_⟩
  rw [State.peer_congr hp]
  exact .refl _

theorem modStation (s : State) (f : Station → Station) (state : (f s.station).state = s.station.state := by rfl)
    (listen : (f s.station).listen.runs = true → s.station.listen.runs = true := by exact id)
    (beacon : (f s.station).beacon.runs = true → s.station.beacon.runs = true := by exact id) :
    StartsNoTimer s (s.modStation f) := ⟨.rfl, state, listen, beacon, fun _ => .refl _⟩

theorem of_settles {s t : State} (h : Settles s t) (peer : ∀ a, (s.peer a).Calmer (t.peer a)) : StartsNoTimer s t :=
  ⟨by rw [h.access], h.station_state, by rw [h.station]; exact id, by rw [h.station]; exact id, peer⟩

theorem of_moves {s t : State} (h : Moves s t) : StartsNoTimer s t := by
  obtain ⟨settles, peers, -⟩ := h
  exact .of_settles settles fun a => by rw [State.peer_congr peers]; exact .refl _

theorem of_samePeers {s t : State} (h : Settles s t) (hp : t.peers = s.peers) : StartsNoTimer s t :=
  .of_settles h fun a => by rw [State.peer_congr hp]; exact .refl _

theorem modPeer (s : State) (a : Nat) {f : PeerRecord → PeerRecord} (hf : ∀ p : PeerRecord, p.Calmer (f p)) :
    StartsNoTimer s (s.modPeer a f) := by
  refine .of_settles (s.modPeer_settles a f) fun b => ?_
  rcases s.peer_modPeer_cases a b f with h | ⟨rfl, h⟩ <;> rw [h]
  exacts [.refl _, hf _]

theorem makeSilent (s : State) (a : Nat) : StartsNoTimer s (s.makeSilent a) :=
  (modPeer s a PeerRecord.silenced_calmer).trans (of_moves (s.makeSilent_moves a))

/-- R120: the last accepted sequence of a record times nothing. -/
theorem accepts (s : State) (a seq : Nat) :
    StartsNoTimer s (s.modPeer a fun p => { p with lastAccepted := some seq }) :=
  modPeer s a (f := fun p => { p with lastAccepted := some seq }) fun _ => ⟨id, id, id⟩

/-- R67: the sender of a LEAVE notice departs. -/
theorem departure (s : State) (a : Nat) : StartsNoTimer s (s.departure a) :=
  (makeSilent s a).trans (modPeer _ a fun p => p.opened_calmer none none)

/-- R15: routing a frame starts no timer. -/
theorem route (s : State) (f : Frame) : StartsNoTimer s (s.route f) := by
  by_cases hk : f.kind = .notice .leave
  · have departs : s.route f = s.departure f.source := by rw [State.route, hk]
    rw [departs]
    exact departure s _
  · have peer (a : Nat) : (s.peer a).Calmer ((s.route f).peer a) := by
      rcases s.route_peers hk with h | h <;> rw [State.peer_congr h]
      · exact .refl _
      · exact (accepts s f.source f.seq).peer a
    have files := s.route_files hk
    generalize s.route f = t at peer files
    obtain ⟨reply, hold, peers, inbound, counters, rfl⟩ := files
    exact ⟨.rfl, rfl, id, id, peer⟩

theorem applyWants (s : State) : StartsNoTimer s s.applyWants := by
  refine .of_blocks s.applyWants_station (s.applyWants_unchanged .peers (by decide)) ?_
  rw [State.applyWants_eq]
  show (if _ then _ else _) = AccessState.off ↔ _
  split_ifs with idle
  · simp [idle.1]
  · simp [idle.1]
  · rfl

theorem setH (s : State) (h : Bool) : StartsNoTimer s (s.setH h) := by
  have station := s.setH_station h
  have off : (s.setH h).access = s.access := s.setH_unchanged h .access (by decide)
  refine ⟨by rw [off], by rw [station], by rw [station]; exact id, by rw [station]; exact id, fun a => ?_⟩
  rw [State.peer_congr (s.setH_peers h)]
  exact .refl _

/-- R108, R111: a window that closes with no reply. -/
theorem closeWindow (s : State) : StartsNoTimer s (s.closeWindow .noReply) := by
  have settled : StartsNoTimer s (s.settleWindow .noReply) := by
    refine .of_settles (s.settleWindow_settles _) fun b => ?_
    rcases s.settleWindow_peers .noReply with h | ⟨a, hw, -⟩ | ⟨a, -, h⟩
    · rw [State.peer_congr h]
      exact .refl _
    · cases hw
    · rw [State.peer_congr h]
      exact (modPeer s a PeerRecord.silenced_calmer).peer b
  exact settled.trans (.of_blocks rfl rfl .rfl)

theorem closeOpenWindow (s : State) : StartsNoTimer s s.closeOpenWindow := by
  unfold State.closeOpenWindow
  split_ifs
  exacts [closeWindow s, .of_blocks rfl rfl .rfl]

end StartsNoTimer

/-! ### The invariant, operation by operation -/

theorem peerRange_iff (a : Nat) : a ∈ List.range' 1 Config.peers ↔ 1 ≤ a ∧ a ≤ 30 := by
  simp [Config.peers, List.mem_range'_1]
  omega

/-- R53, R62: of the timers that UNJOINED stops none runs. -/
structure State.Quiet (s : State) : Prop where
  listen : s.station.listen.runs = false
  beacon : s.station.beacon.runs = false
  peer : ∀ a, (s.peer a).presenceTimer.runs = false ∧ (s.peer a).holdTimer.runs = false

theorem StartsNoTimer.quiet {s t : State} (k : StartsNoTimer s t) (h : s.Quiet) : t.Quiet := by
  have stays {p q : Bool} (hp : p = false) (hq : q = true → p = true) : q = false := by
    rw [Bool.eq_false_iff]
    exact fun h => by simp [hp] at hq; simp [hq] at h
  exact ⟨stays h.listen k.listen, stays h.beacon k.beacon, fun a =>
    ⟨stays (h.peer a).1 (k.peer a).presence, stays (h.peer a).2 (k.peer a).hold⟩⟩

namespace TimersGoverned

theorem intro {s : State} (off : AccessFollowsStation s) (peer : ∀ a, (s.peer a).TimersGoverned)
    (quiet : s.station.state = .unjoined → s.Quiet) : TimersGoverned s :=
  ⟨off, fun a _ => peer a, fun hs => ⟨(quiet hs).listen, (quiet hs).beacon, fun a _ => (quiet hs).peer a⟩⟩

theorem follows {s : State} (h : TimersGoverned s) : AccessFollowsStation s := h.1

theorem peer {s : State} (h : TimersGoverned s) (a : Nat) : (s.peer a).TimersGoverned := by
  obtain ⟨-, governed, -⟩ := h
  by_cases ha : a ∈ List.range' 1 Config.peers
  · exact governed a ha
  · rw [s.peer_outside a (by rw [peerRange_iff] at ha; omega)]
    exact ⟨nofun, nofun⟩

theorem quiet {s : State} (h : TimersGoverned s) (hs : s.station.state = .unjoined) : s.Quiet := by
  obtain ⟨-, -, stopped⟩ := h
  obtain ⟨listen, beacon, peers⟩ := stopped hs
  refine ⟨listen, beacon, fun a => ?_⟩
  by_cases ha : a ∈ List.range' 1 Config.peers
  · exact peers a ha
  · rw [s.peer_outside a (by rw [peerRange_iff] at ha; omega)]
    exact ⟨rfl, rfl⟩

/-- What starts no timer keeps the invariant. -/
theorem after {s t : State} (h : TimersGoverned s) (k : StartsNoTimer s t) : TimersGoverned t := by
  refine .intro ?_ (fun a => (k.peer a).governed (h.peer a)) fun hs => k.quiet (h.quiet (k.state ▸ hs))
  rw [AccessFollowsStation, k.off, k.state]
  exact h.follows

/-- With the access controller out of OFF the station is joined (R21). -/
theorem joined {s : State} (h : TimersGoverned s) (on : s.access.state ≠ .off) :
    s.station.state ≠ .unjoined ∧ s.station.state ≠ .lineFault := by
  have follows := h.follows
  exact ⟨fun hs => on (follows.mpr (.inl hs)), fun hs => on (follows.mpr (.inr hs))⟩

/-- Out of OFF a governed record is all that is asked: timers may start. -/
theorem of_on {s : State} (on : s.access.state ≠ .off)
    (hs : s.station.state ≠ .unjoined ∧ s.station.state ≠ .lineFault)
    (peer : ∀ a, (s.peer a).TimersGoverned) : TimersGoverned s :=
  .intro ⟨fun h => absurd h on, fun h => (h.elim hs.1 hs.2).elim⟩ peer fun h => absurd h hs.1

theorem applyWants {s : State} (h : TimersGoverned s) : TimersGoverned s.applyWants := h.after (.applyWants s)

/-- R30, R32, R34: out of OFF the access controller stays out of it. -/
theorem contendOrIdle {s : State} (h : TimersGoverned s) (on : s.access.state ≠ .off) :
    TimersGoverned s.contendOrIdle := by
  refine h.after (.of_blocks rfl rfl ⟨fun off => ?_, fun off => absurd off on⟩)
  change (if s.wantsLine = true then AccessState.gap else .idle) = .off at off
  split_ifs at off

/-! ### Windows, OFF and UNJOINED -/

/-- R73, R108: a window is closed out of OFF, where a hold order may start a timer. -/
theorem closeWindow {s : State} (w : WindowResult) (h : TimersGoverned s) (on : s.access.state ≠ .off) :
    TimersGoverned (s.closeWindow w) := by
  refine of_on ?_ ?_ fun b => ?_
  · rwa [s.closeWindow_access]
  · have state : (s.closeWindow w).station.state = s.station.state := (s.settleWindow_settles w).station_state
    rw [state]
    exact h.joined on
  · show ((s.settleWindow w).peer b).TimersGoverned
    rcases s.settleWindow_peers w with hp | ⟨a, -, hp⟩ | ⟨a, -, hp⟩ <;> rw [State.peer_congr hp]
    · exact h.peer b
    · rcases s.peer_modPeer_cases a b _ with same | ⟨-, held⟩
      · exact same ▸ h.peer b
      · obtain ⟨presence, -⟩ := h.peer a
        exact held ▸ ⟨presence, fun _ => rfl⟩
    · exact ((StartsNoTimer.modPeer s a PeerRecord.silenced_calmer).peer b).governed (h.peer b)

/-- R53, R62: every entry to UNJOINED stops the timers. -/
theorem enterUnjoined (s : State) : TimersGoverned s.enterUnjoined := by
  have stopped : ((s.modStation Station.unjoin).modPeers fun v => v.map PeerRecord.stopTimers).Quiet := by
    refine ⟨rfl, rfl, fun a => ?_⟩
    rw [State.peer_modPeers_map _ PeerRecord.stopTimers rfl]
    exact ⟨rfl, rfl⟩
  have quiet : s.enterUnjoined.Quiet := by
    obtain ⟨listen, beacon, peer⟩ := (StartsNoTimer.closeOpenWindow _).quiet stopped
    exact ⟨listen, beacon, peer⟩
  refine .intro ⟨fun _ => .inl s.enterUnjoined_state, fun _ => by rw [s.enterUnjoined_access]; rfl⟩ (fun a => ?_)
    fun _ => quiet
  obtain ⟨presence, hold⟩ := quiet.peer a
  exact ⟨by simp [presence], by simp [hold]⟩

theorem flagChange {s : State} (h : TimersGoverned s) : TimersGoverned s.flagChange := h.after (.modStation s _)

theorem lineFault {s : State} (reason : FaultReason) (h : TimersGoverned s) : TimersGoverned (s.lineFault reason) := by
  unfold State.lineFault
  split
  · have closed := StartsNoTimer.closeOpenWindow s
    refine .intro ⟨fun _ => .inr (State.closeOpenWindow_state _), fun _ => by rw [State.enterOff_access]; rfl⟩
      (fun a => ?_) fun hs => ?_
    · exact ((StartsNoTimer.closeOpenWindow _).peer a).governed ((closed.peer a).governed (h.peer a))
    · exact absurd ((State.closeOpenWindow_state _).symm.trans hs) (by nofun)
  · exact (enterUnjoined _).flagChange
  · exact (enterUnjoined _).flagChange
  · exact h
  · exact h

/-! ### Requests -/

theorem configure {s : State} (a b c d e f g m : Byte) (h : TimersGoverned s) :
    TimersGoverned (answerConfigure a b c d e f g m s).state := by
  unfold answerConfigure
  dsimp only
  split_ifs
  · exact h
  · have rated := s.changeRate_unchanged (configOf a b c d e f g m).rate
    have access : (s.changeRate _).access = s.access := rated .access (by decide)
    have kept := h.after (.of_blocks (rated .station (by decide)) (rated .peers (by decide)) (by rw [access]))
    exact (kept.after (.modStation _ _)).after (.setH _ _)
  · exact h

/-- R21: out of OFF, in a station state that is joined. -/
theorem leaveOff {s : State} (hs : s.station.state ≠ .unjoined ∧ s.station.state ≠ .lineFault)
    (peer : ∀ a, (s.peer a).TimersGoverned) : TimersGoverned s.leaveOff :=
  (of_on (s := s.modAccess _) (by nofun) hs peer).applyWants

/-- R42: the records are initial when the listen timer starts. -/
theorem join {s : State} (h : TimersGoverned s) : TimersGoverned (answerJoin s).state := by
  unfold answerJoin
  split_ifs
  · exact h
  · exact h
  · refine leaveOff (s := s.joinCleared) ⟨by nofun, by nofun⟩ fun a => ?_
    rw [← State.peer_congr (s.joinCleared.leaveOff_unchanged .peers (by decide)), ← s.startJoin_eq, s.startJoin_peer]
    exact ⟨nofun, nofun⟩

theorem leave {s : State} (mode : Byte) (h : TimersGoverned s) : TimersGoverned (answerLeave mode s).state := by
  unfold answerLeave
  split
  · exact h
  split
  · exact h
  · unfold State.leaveJoining
    split_ifs
    exacts [h.after (.modStation s fun st => { st with leavePending := true }), enterUnjoined s]
  · next m _ _ hs =>
    have on : s.access.state ≠ .off := fun off => by simpa [hs] using h.follows.mp off
    have leaving : TimersGoverned (s.leaving m) := of_on on ⟨by nofun, by nofun⟩ h.peer
    refine applyWants (after ?_ (.of_moves (State.watchQueues_moves _)))
    cases m with
    | drain => exact leaving
    | abandon => exact leaving.after (.of_moves (State.abandonAll_moves _))
  · have changed := h.after (.modStation s fun st => { st with leaveMode := some .abandon })
    unfold State.changeLeave
    exact ite_keeps h fun _ => (changed.after (.of_moves (State.abandonAll_moves _))).applyWants
  · dsimp only
    exact enterUnjoined _

theorem post {s : State} (dest cls length : Byte) (payload : List Byte) (h : TimersGoverned s) :
    TimersGoverned (answerPost dest cls length payload s).state := by
  unfold answerPost
  split
  · exact h
  split
  · exact h
  split
  · exact h
  · exact (h.after (.of_samePeers ((s.setSlot_settles _ _).trans (State.modQueue_settles _ _ _)) (by simp))).applyWants

theorem cancel {s : State} (slot tag : Byte) (h : TimersGoverned s) :
    TimersGoverned (answerCancel slot tag s).state := by
  have resolved := (h.after (.of_moves (s.resolve_moves slot.toNat .cancelled))).applyWants
  have marked : TimersGoverned (State.setMark .cancelled s slot.toNat) :=
    h.after (.of_moves (s.modMessage_moves slot.toNat _))
  unfold answerCancel
  split
  · exact h
  split
  exacts [h, resolved, resolved, marked, marked]

theorem fetch {s : State} (h : TimersGoverned s) : TimersGoverned (answerFetch s).state := by
  unfold answerFetch
  split
  · exact h
  · next rest _ =>
    have removed : TimersGoverned (s.modInbound fun b => { b with records := rest }) := h
    exact (removed.after (.setH _ _)).applyWants

theorem takeOutcomes {s : State} (max : Byte) (h : TimersGoverned s) :
    TimersGoverned (answerTakeOutcomes max s).state := by
  unfold answerTakeOutcomes
  split_ifs
  · exact h
  · exact h
  · exact after (s := s.modOutcomes _) h (.of_moves (State.refill_moves _))

/-! ### Heard frames -/

theorem addressConflict {s : State} (h : TimersGoverned s) : TimersGoverned s.addressConflict := by
  have counted : TimersGoverned (s.count .addressConflicts) := h
  unfold State.addressConflict
  dsimp only
  split_ifs
  exacts [(enterUnjoined _).flagChange, counted.after (.modStation _ _)]

/-- R64: what a frame says starts timers only with the fields they time. -/
theorem heard_governed (config : ConfigRecord) (f : Frame) (p : PeerRecord) (h : p.TimersGoverned) :
    (p.heard config f).TimersGoverned := by
  obtain ⟨presence, hold⟩ := h
  unfold PeerRecord.heard
  dsimp only
  split_ifs <;> simp_all [PeerRecord.TimersGoverned, Timer.runs]

/-- R6: a frame is heard outside UNJOINED only. -/
theorem takeFound {s : State} (found : Found) (h : TimersGoverned s) (hs : s.station.state ≠ .unjoined) :
    TimersGoverned (s.takeFound found) := by
  cases found with
  | noFrame => exact h
  | discarded k => exact h
  | valid f =>
    have counted : TimersGoverned (s.count .framesHeard) := h
    unfold State.takeFound State.takeValid
    dsimp only
    split_ifs
    · exact counted.addressConflict
    · refine after (s := (s.count .framesHeard).learn f) ?_ (.route _ f)
      have learned := ((s.count .framesHeard).modPeer_settles f.source (PeerRecord.heard s.station.config f))
      refine .intro ?_ (fun b => ?_) fun hu => absurd (learned.station_state ▸ hu) hs
      · have follows := h.follows
        rw [AccessFollowsStation, State.learn, State.modPeer_access, State.modPeer_station]
        exact follows
      · rcases (s.count .framesHeard).peer_modPeer_cases f.source b
          (PeerRecord.heard s.station.config f) with same | ⟨-, heard⟩
        · exact same ▸ h.peer b
        · exact heard ▸ heard_governed _ f _ (h.peer f.source)

theorem accessEnded {s : State} (w : WindowResult) (h : TimersGoverned s) : TimersGoverned (s.accessEnded w) := by
  unfold State.accessEnded
  split
  · next hs => exact h.after (.of_blocks rfl rfl (by simp [hs]))
  · next hs =>
    have on : s.access.state ≠ .off := by simp [hs]
    refine ite_keeps h fun _ => (h.closeWindow w on).contendOrIdle ?_
    rwa [s.closeWindow_access]
  · exact h.applyWants

theorem endOfFrame {s : State} (rxd : Levels) (h : TimersGoverned s) : TimersGoverned (s.endOfFrame rxd) := by
  unfold State.endOfFrame
  split
  · exact h
  · have ended : TimersGoverned (s.occupyWindow rxd).lineEnded := h
    unfold State.endBurst
    split_ifs with hears
    · exact (ended.takeFound _ ((State.hears_iff _ _).mp hears).2.2).accessEnded _
    · exact ended.accessEnded _

theorem beginActivity {s : State} (rxd : Levels) (h : TimersGoverned s) : TimersGoverned (s.beginActivity rxd) := by
  refine h.after (.of_blocks rfl rfl ?_)
  show (State.modAccess (s.modLine _) _).access.state = .off ↔ s.access.state = .off
  cases hs : s.access.state <;> simp [hs]

/-! ### Own frames -/

/-- A frame driven leaves OFF where it is not. -/
theorem drive {s : State} {st : AccessState} (f : Frame) (h : TimersGoverned s) (on : s.access.state ≠ .off)
    (hst : st ≠ .off) : TimersGoverned (s.drive st f) :=
  h.after (.of_blocks rfl rfl ⟨fun off => absurd off hst, fun off => absurd off on⟩)

theorem win {s : State} (h : TimersGoverned s) (on : s.access.state ≠ .off) : TimersGoverned s.win := by
  unfold State.win
  split
  · exact drive (s := s.modEngine _) _ h on (by nofun)
  · next d i m _ =>
    have advanced : StartsNoTimer s (s.advanceTx m) := by
      unfold State.advanceTx
      split_ifs
      exacts [.modPeer s m.dest (f := fun p => { p with nextTx := (p.nextTx + 1) % 256 }) fun _ => ⟨id, id, id⟩,
        .of_moves (.refl s)]
    have access : (s.advanceTx m).access = s.access := by
      unfold State.advanceTx
      split_ifs
      exacts [s.modPeer_access _ _, rfl]
    have sequenced := h.after advanced
    have taken : TimersGoverned (s.takeMessage d i m) := sequenced
    exact taken.drive _ (by rwa [State.takeMessage, State.modEngine_access, State.setSlot_access, access]) (by nofun)
  · refine applyWants (h.after (.of_blocks rfl rfl ⟨nofun, fun off => absurd off on⟩))

/-- R48: the beacon timer starts with the end of an own frame, out of OFF. -/
theorem frameSent {s : State} (kind : FrameKind) (hold : Bool) (h : TimersGoverned s) (on : s.access.state ≠ .off) :
    TimersGoverned (s.frameSent kind hold) := of_on on (h.joined on) h.peer

theorem noticeCompleted {s : State} (kind : FrameKind) (h : TimersGoverned s) (on : s.access.state ≠ .off) :
    TimersGoverned (s.noticeCompleted kind) := by
  unfold State.noticeCompleted
  split
  · split_ifs
    exacts [(enterUnjoined _).flagChange, of_on on ⟨by nofun, by nofun⟩ h.peer, h]
  · exact ite_keeps h fun _ => (enterUnjoined _).flagChange
  · exact h

theorem afterContended {s : State} (kind : FrameKind) (h : TimersGoverned s) :
    TimersGoverned (s.afterContended kind) := by
  unfold State.afterContended
  split_ifs with off
  exacts [h, h.after (.of_blocks rfl rfl ⟨nofun, fun hoff => absurd hoff off⟩), h.contendOrIdle off]

/-- DE is released with the access controller where it is. -/
theorem endDrive {s : State} (l : Line) (h : TimersGoverned s) : TimersGoverned (s.endDrive l) :=
  h.after (.of_blocks rfl rfl .rfl)

theorem completeFrame {s : State} (l : Line) (f : Frame) (h : TimersGoverned s) (on : s.access.state ≠ .off) :
    TimersGoverned (s.completeFrame l f) := by
  have released : TimersGoverned (((s.endDrive l).modAccess fun a => { a with n := 0 }).count .framesSent) :=
    (h.endDrive l).after (.of_blocks rfl rfl .rfl)
  have sent := released.frameSent f.kind f.h on
  have settled := State.completeInFlight_settles
    ((((s.endDrive l).modAccess fun a => { a with n := 0 }).count .framesSent).frameSent f.kind f.h)
  have completed := sent.after (.of_samePeers settled (State.completeInFlight_peers _))
  exact (completed.noticeCompleted f.kind (by rw [settled.access]; exact on)).afterContended f.kind

theorem collide {s : State} (l : Line) (h : TimersGoverned s) (on : s.access.state ≠ .off) :
    TimersGoverned (s.collide l) := by
  have deferred : TimersGoverned (((s.endDrive l).modAccess fun a => { a with state := .defer }).count .collisions) :=
    h.after (.of_blocks rfl rfl ⟨nofun, fun off => absurd off on⟩)
  have withdrawn := deferred.after (.of_samePeers (State.withdrawInFlight_settles _) (State.withdrawInFlight_peers _))
  have counted (n : Nat) := withdrawn.after (.of_blocks (t := State.modAccess _ fun a => { a with n := n }) rfl rfl .rfl)
  unfold State.collide
  dsimp only
  split_ifs
  exacts [(counted _).lineFault _, (enterUnjoined _).flagChange, counted _]

theorem completeReply {s : State} (l : Line) (f : Frame) (h : TimersGoverned s) (on : s.access.state ≠ .off) :
    TimersGoverned (s.completeReply l f) := by
  have counted : TimersGoverned ((s.endDrive l).count .framesSent) := h.endDrive l
  exact (counted.frameSent f.kind f.h on).contendOrIdle on

theorem abandonReply {s : State} (l : Line) (h : TimersGoverned s) (on : s.access.state ≠ .off) :
    TimersGoverned (s.abandonReply l) :=
  h.after (.of_blocks rfl rfl ⟨nofun, fun off => absurd off on⟩)

/-! ### Timers -/

theorem elapse {s : State} (ms : Nat) (h : TimersGoverned s) : TimersGoverned (s.elapse ms) := by
  refine h.after ⟨.rfl, rfl, by simp [State.elapse_station], by simp [State.elapse_station], fun a => ?_⟩
  rw [s.elapse_peer]
  exact (s.peer a).countDown_calmer ms

theorem listenOut {s : State} (h : TimersGoverned s) : TimersGoverned s.listenOut := by
  unfold State.listenOut
  refine ite_keeps h fun _ => applyWants (h.after ?_)
  exact (StartsNoTimer.modStation s (fun st => { st with listen := .stopped }) rfl nofun id).trans (.modStation _ _)

theorem beaconOut {s : State} (h : TimersGoverned s) : TimersGoverned s.beaconOut := by
  have expired := h.after (.modStation s (fun st => { st with beacon := .runOut }) rfl id nofun)
  unfold State.beaconOut
  refine ite_keeps h fun _ => ?_
  dsimp only
  split_ifs
  exacts [(expired.after (.modStation _ _)).applyWants, expired]

theorem renewalOut {s : State} (h : TimersGoverned s) : TimersGoverned s.renewalOut := by
  unfold State.renewalOut
  exact ite_keeps h fun _ => (h.after ((StartsNoTimer.modStation s _).trans (.modStation _ _))).applyWants

theorem presenceOut {s : State} (peer : Nat) (h : TimersGoverned s) : TimersGoverned (s.presenceOut peer) := by
  unfold State.presenceOut
  exact ite_keeps h fun _ => (h.after (.makeSilent s peer)).applyWants

theorem holdOut {s : State} (peer : Nat) (h : TimersGoverned s) : TimersGoverned (s.holdOut peer) := by
  unfold State.holdOut
  exact ite_keeps h fun _ => (h.after (.modPeer s peer fun p => p.opened_calmer p.epoch p.lastAccepted)).applyWants

theorem retryOut {s : State} (slot : Nat) (h : TimersGoverned s) : TimersGoverned (s.retryOut slot) := by
  unfold State.retryOut
  exact ite_keeps h fun _ => (h.after (.of_moves (s.modMessage_moves slot _))).applyWants

end TimersGoverned

/-! ### Every step -/

theorem State.resetWith_timersGoverned (s : State) (config : ConfigRecord) (reply : Option Reply) (straps : BitVec 5)
    (rxdMark : Bool) : TimersGoverned (s.resetWith config reply straps rxdMark) :=
  State.reset_timersGoverned.after ⟨.rfl, rfl, id, id, fun _ => .refl _⟩

theorem operationsKeep_timersGoverned : OperationsKeep TimersGoverned where
  surroundings same h := by
    have access := same .access (by decide)
    exact h.after (.of_blocks (same .station (by decide)) (same .peers (by decide)) (by rw [access]))
  elapse ms h := h.elapse ms
  pinReset _ _ _ := State.resetWith_timersGoverned _ _ _ _ _
  restart _ _ _ := State.resetWith_timersGoverned _ _ _ _ _
  status h := h.after (.modStation _ fun st => { st with stateChange := false, conflict := false })
  configure _ _ _ _ _ _ _ _ h := h.configure _ _ _ _ _ _ _ _
  join h := h.join
  leave mode h := h.leave mode
  post _ _ _ _ h := h.post _ _ _ _
  cancel _ _ h := h.cancel _ _
  fetch h := h.fetch
  takeOutcomes max h := h.takeOutcomes max
  readCounters clear {s} h := by
    unfold answerReadCounters
    split_ifs <;> exact h
  beginActivity rxd h := h.beginActivity rxd
  endOfFrame rxd _ h := h.endOfFrame rxd
  completeGap hs h := h.after (.of_blocks rfl rfl ⟨nofun, fun off => by simp [hs] at off⟩)
  reportIdle _ h := h
  win hs h := h.win (by simp [hs])
  completeFrame _ hf h := h.completeFrame _ _ (by simp [hf.1])
  collide _ hf h := h.collide _ (by simp [hf.1])
  driveReply _ hs h := by
    refine TimersGoverned.drive _ (h.after (.of_blocks rfl rfl .rfl)) ?_ (by nofun)
    rcases hs with hs | hs | hs | hs <;> simp [hs]
  completeReply _ hf h := h.completeReply _ _ (by simp [hf.1])
  abandonReply _ hf h := h.abandonReply _ (by simp [hf.1])
  closeUnanswered hs h := (h.closeWindow _ (by simp [hs])).contendOrIdle (by rw [State.closeWindow_access]; simp [hs])
  lineFault reason _ _ h := h.lineFault reason
  recover _ h := .leaveOff ⟨by nofun, by nofun⟩ h.peer
  listenOut h := h.listenOut
  beaconOut h := h.beaconOut
  renewalOut h := h.renewalOut
  presenceOut peer h := h.presenceOut peer
  holdOut peer h := h.holdOut peer
  retryOut slot h := h.retryOut slot

/-- Settles O58: an operation starts no timer, or starts one out of OFF, or stops them all on the way to UNJOINED. -/
theorem stepKeepsTimersGoverned : Obligations.StepKeepsTimersGoverned := by
  unfold Obligations.StepKeepsTimersGoverned
  exact fun _ _ h ht => operationsKeep_timersGoverned.step h ht

end Sys2Proof.Machine
end

/-! SUPPORT. What operations do to messages and peer records (R61, R68, R82, R86, R92): one relation, made of the
elementary changes, and one lemma per operation that it does no more. -/

section
namespace Sys2Proof.Machine

-- One proof at a time: a thread for each that waits for the same case split can run the checker out of memory.
set_option Elab.async false

/-- The message is in flight with a withdraw mark (R90). -/
def Message.Marked (m : Message) : Prop := ∃ k, m.state = .onLine (some k) ∨ m.state = .awaitReply (some k)

theorem State.isMarked_iff (s : State) (i : Nat) :
    s.isMarked i = true ↔ ∃ m, (s.slot i).msg = some m ∧ m.Marked := by
  unfold State.isMarked Message.Marked
  cases (s.slot i).msg with
  | none => simp
  | some m => cases hm : m.state <;> simp [hm, Option.isSome_iff_exists]

/-- A message changed to `m'` stays one for the same destination, unresolved and marked if it was. -/
structure Message.Stays (m m' : Message) : Prop where
  dest : m'.dest = m.dest
  live : m.Live → m'.Live
  marked : m.Marked → m'.Marked

/-- R86: what an accepted POST has checked of its destination. -/
theorem State.postRefusal_eq_none {s : State} {dest cls length : Nat} (h : s.postRefusal dest cls length = none) :
    dest ≠ s.station.address ∧ (s.peer dest).presence ≠ .silent := by
  unfold State.postRefusal at h
  split_ifs at h with named _ _ silent
  refine ⟨fun own => named (.inr (.inr own)), fun hs => ?_⟩
  by_cases all : dest = Config.broadcast
  · rw [s.peer_outside dest (by simp [all])] at hs
    cases hs
  · exact silent ⟨all, hs⟩

/-- R64: a frame makes its sender PRESENT, but for a LEAVE notice, which leaves the presence to R67. -/
theorem PeerRecord.heard_presence (config : ConfigRecord) (f : Frame) (p : PeerRecord) :
    (p.heard config f).presence = if f.kind = .notice .leave then p.presence else .present := by
  unfold PeerRecord.heard
  dsimp only
  split_ifs <;> rfl

/-- A message picked is QUEUED: it is the head that makes its destination eligible (R98, R101). -/
theorem State.pick_message {s : State} {d i : Nat} {m : Message}
    (h : s.pick = .message d i m) : (s.slot i).msg = some m ∧ m.state = .queued := by
  unfold State.pick at h
  split at h
  · cases h
  split at h
  · cases h
  next d' scanned =>
  split at h
  · cases h
  next j rest hq =>
  split at h
  · cases h
  next m' hm =>
  obtain ⟨rfl, rfl, rfl⟩ := Pick.message.inj h
  have eligible : s.eligible d' = true := List.find?_some scanned
  have queued : s.headQueued d' = true := by
    simp only [State.eligible, Bool.and_eq_true] at eligible
    exact eligible.1.2
  exact ⟨hm, by simpa [State.headQueued, hq, hm] using queued⟩

/-- R90: a mark given keeps the one that stands. -/
theorem State.setMark_stays (k : Mark) (s : State) (i : Nat) : ∃ f, State.setMark k s i = s.modMessage i f ∧
    ∀ m : Message, m.Stays (f m) := by
  refine ⟨_, rfl, fun m => ?_⟩
  obtain ⟨dest, cls, payload, attempts, seq, state⟩ := m
  rcases state with _ | (_ | _) | (_ | _) | _ | _ <;>
    exact ⟨rfl, by simp [Message.Live], by simp [Message.Marked]⟩

/-- What the state holds of `a` says that it is not the own address: it differs, its record is not initial, or a
message is for it. -/
def State.Foreign (s : State) (a : Nat) : Prop :=
  a ≠ s.station.address ∨ s.peer a ≠ PeerRecord.initial ∨ ∃ i m, (s.slot i).msg = some m ∧ m.dest = a

/-- The changes of messages and peer records that operations other than a reset are made of. -/
inductive Handles : State → State → Prop where
  /-- Everything else changes. -/
  | apart {s t : State} (outbound : t.outbound = s.outbound) (peers : t.peers = s.peers)
    (address : t.station.address = s.station.address) : Handles s t
  | trans {s t u : State} (first : Handles s t) (next : Handles t u) : Handles s u
  | message {s : State} (i : Nat) (f : Message → Message)
    (stays : ∀ m, (s.slot i).msg = some m → m.Stays (f m)) : Handles s (s.modMessage i f)
  | resolve (s : State) (i : Nat) (r : MsgResult) : Handles s (s.resolve i r)
  /-- A record changes, and no peer becomes SILENT with it. -/
  | record {s : State} (a : Nat) (f : PeerRecord → PeerRecord) (foreign : s.Foreign a)
    (presence : (f (s.peer a)).presence = .silent → (s.peer a).presence = .silent) : Handles s (s.modPeer a f)
  /-- A peer becomes SILENT, which at the start of the change was known for another station. -/
  | silence {s t : State} (a : Nat) (before : Handles s t) (foreign : s.Foreign a) : Handles s (t.makeSilent a)
  | records (s : State) (f : PeerRecord → PeerRecord) (initial : f .initial = .initial)
    (presence : ∀ p, (f p).presence = .silent → p.presence = .silent) :
    Handles s (s.modPeers fun v => v.map f)
  | elapse (s : State) (ms : Nat) : Handles s (s.elapse ms)
  /-- A new message joins the queue of its destination, which is not SILENT (R86, R87). -/
  | allocate {s : State} (i tag : Nat) (m : Message) (slot : i < 48) (free : (s.slot i).msg = none) (live : m.Live)
    (other : m.dest ≠ s.station.address) (presence : (s.peer m.dest).presence ≠ .silent) :
    Handles s ((s.setSlot i ⟨tag, some m⟩).modQueue m.dest fun q => q ++ [i])
  /-- A DONE slot becomes FREE (R138). -/
  | release {s : State} (i tag : Nat) (m : Message) (held : (s.slot i).msg = some m) (done : ¬ m.Live) :
    Handles s (s.setSlot i ⟨tag, none⟩)

namespace Handles

theorem refl (s : State) : Handles s s := .apart rfl rfl rfl

theorem of_unchanged {changed : List Block} {s t : State} (h : UnchangedBut changed s t)
    (outbound : .outbound ∉ changed) (peers : .peers ∉ changed) (address : t.station.address = s.station.address) :
    Handles s t := .apart (h .outbound outbound) (h .peers peers) address

/-- An operation performed on a condition, else nothing. -/
theorem ite {p : Prop} [Decidable p] {s t : State} (h : p → Handles s t) : Handles s (if p then t else s) := by
  split_ifs with hp
  exacts [h hp, refl s]

theorem foldl {β : Type} {op : State → β → State} (h : ∀ s b, Handles s (op s b)) (l : List β) (s : State) :
    Handles s (l.foldl op s) :=
  foldl_invariant op (Handles s) (fun t b ht => ht.trans (h t b)) l s (refl s)

/-! ### Settling messages -/

theorem modStation (s : State) (f : Station → Station)
    (h : (f s.station).address = s.station.address := by rfl) : Handles s (s.modStation f) := .apart rfl rfl h

theorem applyWants (s : State) : Handles s s.applyWants :=
  of_unchanged s.applyWants_unchanged (by decide) (by decide) (by rw [s.applyWants_station])

/-- R22 after a change. -/
theorem thenWants {s t : State} (h : Handles s t) : Handles s t.applyWants := h.trans (applyWants t)

theorem leaveOff (s : State) : Handles s s.leaveOff :=
  of_unchanged s.leaveOff_unchanged (by decide) (by decide)
    (congrArg Station.address (s.leaveOff_unchanged .station (by decide)))

theorem setH (s : State) (h : Bool) : Handles s (s.setH h) :=
  of_unchanged (s.setH_unchanged h) (by decide) (by decide) (by rw [s.setH_station])

theorem watchQueues (s : State) : Handles s s.watchQueues :=
  .apart s.watchQueues_outbound (s.watchQueues_moves).2.1 s.watchQueues_settles.station_address

theorem resolveWaiting (r : MsgResult) (s : State) (i : Nat) : Handles s (State.resolveWaiting r s i) := by
  unfold State.resolveWaiting
  split
  · exact refl s
  · split
    exacts [.resolve s i r, .resolve s i r, refl s]

theorem setMark (k : Mark) (s : State) (i : Nat) : Handles s (State.setMark k s i) := by
  obtain ⟨f, marks, stays⟩ := State.setMark_stays k s i
  exact marks ▸ .message i f fun m _ => stays m

theorem resolveQueue (s : State) (d : Nat) (r : MsgResult) : Handles s (s.resolveQueue d r) :=
  .foldl (resolveWaiting r) _ s

theorem markQueue (s : State) (d : Nat) (k : Mark) : Handles s (s.markQueue d k) := .foldl (setMark k) _ s

theorem abandonAll (s : State) : Handles s s.abandonAll :=
  (Handles.foldl (fun s d => resolveQueue s d .abandoned) destinations s).trans
    (.foldl (fun s d => markQueue s d .abandoned) destinations _)

/-- A message that bears no mark may take any state but DONE. -/
theorem restate {s : State} {i : Nat} {m : Message} (hm : (s.slot i).msg = some m) (f : Message → Message)
    (dest : (f m).dest = m.dest) (live : (f m).Live) (unmarked : ¬ m.Marked) : Handles s (s.modMessage i f) := by
  refine .message i f fun m' hm' => ?_
  obtain rfl := Option.some.inj (hm.symm.trans hm')
  exact ⟨dest, fun _ => live, fun marked => absurd marked unmarked⟩

/-- The attempts of a message are no matter of its place. -/
theorem recount (s : State) (i : Nat) (attempts : Nat → Nat) :
    Handles s (s.modMessage i fun m => { m with attempts := attempts m.attempts }) :=
  .message i _ fun _ _ => ⟨rfl, id, id⟩

/-- R110: a refused message is resolved with its mark, or QUEUED again. -/
theorem requeueRefused {s : State} {i : Nat} {m : Message} {mark : Option Mark} (hm : (s.slot i).msg = some m)
    (hs : m.state = .awaitReply mark) : Handles s (s.requeueRefused i mark) := by
  have restored := recount s i (· - 1)
  cases mark with
  | some k => exact restored.trans (.resolve _ i _)
  | none =>
    refine restored.trans (restate (m := { m with attempts := m.attempts - 1 }) ?_ _ rfl nofun ?_)
    · rw [State.slot_modMessage_self, hm]
      rfl
    · simp [Message.Marked, hs]

/-- R111: a message without a reply is resolved, or waits for its retry. -/
theorem settleNoReply {s : State} {i : Nat} {m : Message} {mark : Option Mark} (hm : (s.slot i).msg = some m)
    (hs : m.state = .awaitReply mark) : Handles s (s.settleNoReply i m mark) := by
  unfold State.settleNoReply
  split
  · exact .resolve s i _
  · split_ifs
    · exact .silence m.dest (.resolve s i _) (.inr (.inr ⟨i, m, hm, rfl⟩))
    · exact restate hm _ rfl nofun (by simp [Message.Marked, hs])

theorem settleMessage {s : State} {i : Nat} {m : Message} {mark : Option Mark} (w : WindowResult)
    (hm : (s.slot i).msg = some m) (hs : m.state = .awaitReply mark) : Handles s (s.settleMessage i m mark w) := by
  cases w with
  | ack => exact .resolve s i _
  | refuse =>
    have held : Handles s (s.holdPeer m.dest) := .record m.dest _ (.inr (.inr ⟨i, m, hm, rfl⟩)) id
    exact held.trans (requeueRefused (m := m) (by rwa [State.holdPeer, State.modPeer_slot]) hs)
  | noReply => exact settleNoReply hm hs

theorem clearInFlight (s : State) : Handles s s.clearInFlight := .apart rfl rfl rfl

theorem settleWindow (s : State) (w : WindowResult) : Handles s (s.settleWindow w) := by
  unfold State.settleWindow
  split
  · split
    · exact clearInFlight s
    · next hm =>
      split
      · next hs => exact (settleMessage w hm hs).trans (clearInFlight _)
      · exact clearInFlight s
  · exact clearInFlight s

theorem withdrawInFlight (s : State) : Handles s s.withdrawInFlight := by
  unfold State.withdrawInFlight
  split
  · split
    · exact clearInFlight s
    · next hm =>
      split
      · exact (Handles.resolve s _ _).trans (clearInFlight _)
      · next hs =>
        exact (restate hm _ rfl (by simp [Message.Live]) (by simp [Message.Marked, hs])).trans (clearInFlight _)
      · exact clearInFlight s
  · exact clearInFlight s

/-- R107: a DATA message passes to AWAIT_REPLY with its mark kept. -/
theorem completeInFlight (s : State) : Handles s s.completeInFlight := by
  unfold State.completeInFlight
  split
  · next i _ =>
    split
    · exact clearInFlight s
    · next m hm =>
      split
      · next mark hs =>
        have counted := recount s i (· + 1)
        dsimp only
        split
        · exact (counted.trans (.resolve _ i _)).trans (clearInFlight _)
        · refine counted.trans (.message i _ fun m' hm' => ⟨rfl, fun _ => by simp [Message.Live], ?_⟩)
          rw [State.slot_modMessage_self, hm] at hm'
          obtain rfl := Option.some.inj hm'
          cases mark <;> simp [Message.Marked, hs]
      · exact clearInFlight s
  · exact clearInFlight s

/-! ### Windows, OFF and UNJOINED -/

theorem closeWindow (s : State) (w : WindowResult) : Handles s (s.closeWindow w) :=
  (settleWindow s w).trans (.apart rfl rfl rfl)

theorem enterOff (s : State) : Handles s s.enterOff := by
  have closed : Handles s s.closeOpenWindow := ite fun _ => closeWindow s _
  exact closed.trans (.apart rfl rfl rfl)

theorem enterUnjoined (s : State) : Handles s s.enterUnjoined :=
  ((modStation s Station.unjoin).trans (.records _ PeerRecord.stopTimers rfl fun _ => id)).trans (enterOff _)

theorem flagChange (s : State) : Handles s s.flagChange := modStation s _

theorem lineFault (s : State) (reason : FaultReason) : Handles s (s.lineFault reason) := by
  have closed : Handles s s.closeOpenWindow := ite fun _ => closeWindow s _
  have blamed := closed.trans (modStation s.closeOpenWindow fun st => { st with faultReason := reason })
  unfold State.lineFault
  split
  · exact (blamed.trans (modStation _ _)).trans (enterOff _)
  · exact (blamed.trans (enterUnjoined _)).trans (flagChange _)
  · exact ((blamed.trans (abandonAll _)).trans (enterUnjoined _)).trans (flagChange _)
  · exact refl s
  · exact refl s

/-! ### Requests -/

theorem configure (a b c d e f g m : Byte) (s : State) : Handles s (answerConfigure a b c d e f g m s).state := by
  unfold answerConfigure
  dsimp only
  split_ifs
  · exact refl s
  · refine of_unchanged (s.configured_unchanged (configOf a b c d e f g m)) (by decide) (by decide) ?_
    show (s.configured (configOf a b c d e f g m)).station.address = _
    rw [s.configured_station]
  · exact refl s

/-- R42: every record is initial. -/
theorem join (s : State) : Handles s (answerJoin s).state := by
  have cleared : (Vector.replicate 30 PeerRecord.initial) = s.peers.map fun _ => PeerRecord.initial := by
    ext i hi
    simp
  have started : Handles s s.joinCleared := by
    refine (Handles.records s (fun _ => .initial) rfl nofun).trans (.apart rfl ?_ rfl)
    exact cleared
  unfold answerJoin
  split_ifs
  · exact refl s
  · exact refl s
  · exact started.trans (leaveOff _)

theorem leave (mode : Byte) (s : State) : Handles s (answerLeave mode s).state := by
  unfold answerLeave
  split
  · exact refl s
  split
  · exact refl s
  · unfold State.leaveJoining
    dsimp only
    split_ifs
    exacts [modStation s _, enterUnjoined s]
  · next m _ _ _ =>
    have leaving : Handles s (s.leaving m) := .apart rfl rfl rfl
    refine thenWants ?_
    refine Handles.trans ?_ (watchQueues _)
    cases m with
    | drain => exact leaving
    | abandon => exact leaving.trans (abandonAll _)
  · have changed := modStation s fun st => { st with leaveMode := some .abandon }
    exact ite fun _ => (changed.trans (abandonAll _)).thenWants
  · exact (abandonAll s).trans (enterUnjoined _)

theorem post (dest cls length : Byte) (payload : List Byte) (s : State) :
    Handles s (answerPost dest cls length payload s).state := by
  unfold answerPost
  split
  · exact refl s
  split
  · exact refl s
  next accepted =>
  split
  · exact refl s
  · next i hi =>
    obtain ⟨other, presence⟩ := State.postRefusal_eq_none accepted
    have free : (s.slot i).msg = none := by simpa using List.find?_some hi
    have slot : i < 48 := List.mem_range.mp (List.mem_of_find?_eq_some hi)
    exact (Handles.allocate i _ (newMessage dest.toNat cls.toNat payload) slot free nofun other
      presence).thenWants

theorem cancel (slot tag : Byte) (s : State) : Handles s (answerCancel slot tag s).state := by
  have resolved := (Handles.resolve s slot.toNat .cancelled).thenWants
  have marked := setMark .cancelled s slot.toNat
  unfold answerCancel
  split
  · exact refl s
  split
  exacts [refl s, resolved, resolved, marked, marked]

theorem fetch (s : State) : Handles s (answerFetch s).state := by
  unfold answerFetch
  split
  · exact refl s
  · next rest _ =>
    have removed : Handles s (s.modInbound fun b => { b with records := rest }) := .apart rfl rfl rfl
    exact (removed.trans (setH _ _)).thenWants

theorem freeDone (s : State) (i : Nat) : Handles s (s.freeDone i) := by
  refine ite fun done => ?_
  unfold State.doneOutcome at done
  cases hm : (s.slot i).msg with
  | none => simp [hm] at done
  | some m =>
    refine .release i _ m hm fun live => ?_
    cases hs : m.state <;> simp_all [Message.Live]

theorem takeOutcomes (max : Byte) (s : State) : Handles s (answerTakeOutcomes max s).state := by
  unfold answerTakeOutcomes
  split_ifs
  · exact refl s
  · exact refl s
  · have drained (o : Outcomes) : Handles s (s.modOutcomes fun _ => o) := .apart rfl rfl rfl
    exact ((drained _).trans (.apart rfl rfl rfl)).trans (.foldl freeDone _ _)

/-! ### Heard frames -/

theorem addressConflict (s : State) : Handles s s.addressConflict := by
  have counted : Handles s (s.count .addressConflicts) := .apart rfl rfl rfl
  unfold State.addressConflict
  dsimp only
  split_ifs
  · exact ((counted.trans (modStation _ _)).trans (enterUnjoined _)).trans (flagChange _)
  · exact counted.trans (modStation _ _)

theorem makeSilent {s : State} {a : Nat} (foreign : s.Foreign a) : Handles s (s.makeSilent a) :=
  .silence a (refl s) foreign

/-- R67: the sender of a LEAVE notice. -/
theorem departure {s : State} {a : Nat} (other : a ≠ s.station.address) : Handles s (s.departure a) := by
  refine (makeSilent (.inl other)).trans (.record a _ (.inl ?_) id)
  rwa [(s.makeSilent_settles a).station_address]

/-- R15: of the messages and records a frame of another station touches its sender's record, or its sender departs. -/
theorem route {s : State} {f : Frame} (other : f.source ≠ s.station.address) : Handles s (s.route f) := by
  by_cases hk : f.kind = .notice .leave
  · rw [State.route, hk]
    exact departure other
  · have files := s.route_files hk
    rcases s.route_peers hk with same | accepted
    · exact .apart files.outbound same files.address
    · refine (Handles.record f.source (fun p => { p with lastAccepted := some f.seq }) (.inl other) id).trans
        (.apart ?_ accepted ?_)
      · rw [files.outbound, State.modPeer_outbound]
      · rw [files.address, State.modPeer_station]

theorem takeFound (s : State) (found : Found) : Handles s (s.takeFound found) := by
  have counted (k : CounterName) : Handles s (s.count k) := .apart rfl rfl rfl
  cases found with
  | noFrame => exact refl s
  | discarded k => exact counted k
  | valid f =>
    refine (counted .framesHeard).trans ?_
    by_cases other : f.source = s.station.address
    · have conflicts : (s.count .framesHeard).takeValid f = (s.count .framesHeard).addressConflict := if_pos other
      rw [State.takeFound, conflicts]
      exact addressConflict _
    · have learned : Handles (s.count .framesHeard) ((s.count .framesHeard).learn f) := by
        refine .record f.source _ (.inl other) ?_
        rw [PeerRecord.heard_presence]
        split_ifs
        exacts [id, nofun]
      rw [State.takeFound, State.takeValid_other (by exact other)]
      exact learned.trans (route (by rwa [(State.learn_files _ f).address]))

theorem accessEnded (s : State) (w : WindowResult) : Handles s (s.accessEnded w) := by
  unfold State.accessEnded
  split
  · exact .apart rfl rfl rfl
  · exact ite fun _ => (closeWindow s w).trans (.apart rfl rfl rfl)
  · exact applyWants s

theorem endOfFrame (s : State) (rxd : Levels) : Handles s (s.endOfFrame rxd) := by
  have ended : Handles s (s.occupyWindow rxd).lineEnded := .apart rfl rfl rfl
  unfold State.endOfFrame
  split
  · exact refl s
  · unfold State.endBurst
    split_ifs
    · exact (ended.trans (takeFound _ _)).trans (accessEnded _ _)
    · exact ended.trans (accessEnded _ _)

/-! ### Own frames -/

/-- R102, R103: the message taken is QUEUED, so it bears no mark. -/
theorem takeMessage {s : State} {d i : Nat} {m : Message} (hm : (s.slot i).msg = some m) (hs : m.state = .queued) :
    Handles s (s.takeMessage d i m) := by
  have advanced : Handles s (s.advanceTx m) := ite fun _ => .record m.dest _ (.inr (.inr ⟨i, m, hm, rfl⟩)) id
  have slot : (s.advanceTx m).slot i = s.slot i := by
    unfold State.advanceTx
    split_ifs
    exacts [s.modPeer_slot _ _ _, rfl]
  have taken : Handles (s.advanceTx m) ((s.advanceTx m).modMessage i fun _ =>
      { s.sequenced m with state := .onLine none }) := by
    refine restate (m := m) (by rw [slot, hm]) _ ?_ (by simp [Message.Live]) (by simp [Message.Marked, hs])
    unfold State.sequenced
    split_ifs <;> rfl
  rw [State.modMessage, slot, hm] at taken
  exact (advanced.trans taken).trans (.apart rfl rfl rfl)

theorem win (s : State) : Handles s s.win := by
  unfold State.win
  split
  · exact .apart rfl rfl rfl
  · next d i m picked =>
    obtain ⟨hm, hs⟩ := State.pick_message picked
    exact (takeMessage (d := d) hm hs).trans (.apart rfl rfl rfl)
  · exact thenWants (.apart rfl rfl rfl)

theorem noticeCompleted (s : State) (kind : FrameKind) : Handles s (s.noticeCompleted kind) := by
  have unjoined := (enterUnjoined s).trans (flagChange _)
  unfold State.noticeCompleted
  split
  · split_ifs
    exacts [unjoined, .apart rfl rfl rfl, refl s]
  · exact ite fun _ => unjoined
  · exact refl s

theorem afterContended (s : State) (kind : FrameKind) : Handles s (s.afterContended kind) := by
  unfold State.afterContended
  split_ifs <;> exact .apart rfl rfl rfl

theorem completeFrame (s : State) (l : Line) (f : Frame) : Handles s (s.completeFrame l f) := by
  have sent : Handles s ((((s.endDrive l).modAccess fun a => { a with n := 0 }).count .framesSent).frameSent f.kind f.h) :=
    .apart rfl rfl rfl
  exact ((sent.trans (completeInFlight _)).trans (noticeCompleted _ _)).trans (afterContended _ _)

theorem collide (s : State) (l : Line) : Handles s (s.collide l) := by
  have deferred : Handles s (((s.endDrive l).modAccess fun a => { a with state := .defer }).count .collisions) :=
    .apart rfl rfl rfl
  have withdrawn := deferred.trans (withdrawInFlight _)
  have counted (n : Nat) := withdrawn.trans (.apart (t := State.modAccess _ fun a => { a with n := n }) rfl rfl rfl)
  unfold State.collide
  dsimp only
  split_ifs
  exacts [(counted _).trans (lineFault _ _), ((counted _).trans (enterUnjoined _)).trans (flagChange _), counted _]

/-! ### Timers -/

/-- R66: the peer was PRESENT, so its record is not initial. -/
theorem presenceOut (s : State) (peer : Nat) : Handles s (s.presenceOut peer) := by
  refine ite fun ⟨present, _⟩ => (makeSilent (.inr (.inl fun initial => ?_))).thenWants
  rw [initial] at present
  cases present

/-- R72: the peer was HELD, so its record is not initial. -/
theorem holdOut (s : State) (peer : Nat) : Handles s (s.holdOut peer) := by
  refine ite fun ⟨held, _⟩ => (Handles.record peer _ (.inr (.inl fun initial => ?_)) id).thenWants
  rw [initial] at held
  cases held

theorem retryOut (s : State) (slot : Nat) : Handles s (s.retryOut slot) := by
  refine ite fun due => thenWants ?_
  unfold Slot.retryDue at due
  cases hm : (s.slot slot).msg with
  | none => simp [hm] at due
  | some m =>
    have waits : m.state = .retryWait 0 := by simpa [hm] using due
    exact restate hm _ rfl (by simp [Message.Live]) (by simp [Message.Marked, waits])

theorem listenOut (s : State) : Handles s s.listenOut :=
  ite fun _ => thenWants (.apart rfl rfl rfl)

theorem beaconOut (s : State) : Handles s s.beaconOut := by
  refine ite fun _ => ?_
  dsimp only
  split_ifs
  exacts [thenWants (.apart rfl rfl rfl), modStation s _]

theorem renewalOut (s : State) : Handles s s.renewalOut :=
  ite fun _ => thenWants (.apart rfl rfl rfl)

/-! ### Every step -/

/-- What the elementary changes keep, and what holds after a reset, every operation keeps. -/
theorem operationsKeep {inv : State → Prop} (keeps : ∀ {s t : State}, Handles s t → inv s → inv t)
    (reset : ∀ (s : State) config reply straps rxdMark, inv (s.resetWith config reply straps rxdMark)) :
    OperationsKeep inv where
  surroundings same := keeps (of_unchanged same (by decide) (by decide) (by rw [(same .station (by decide) : _ = _)]))
  elapse ms := keeps (.elapse _ ms)
  pinReset _ _ _ := reset _ _ _ _ _
  restart _ _ _ := reset _ _ _ _ _
  status := keeps (.apart rfl rfl rfl)
  configure _ _ _ _ _ _ _ _ := keeps (configure _ _ _ _ _ _ _ _ _)
  join := keeps (join _)
  leave mode := keeps (leave mode _)
  post _ _ _ _ := keeps (post _ _ _ _ _)
  cancel _ _ := keeps (cancel _ _ _)
  fetch := keeps (fetch _)
  takeOutcomes max := keeps (takeOutcomes max _)
  readCounters clear {s} := by
    unfold answerReadCounters
    split_ifs <;> exact keeps (.apart rfl rfl rfl)
  beginActivity _ := keeps (.apart rfl rfl rfl)
  endOfFrame rxd _ := keeps (endOfFrame _ rxd)
  completeGap _ := keeps (.apart rfl rfl rfl)
  reportIdle _ := keeps (.apart rfl rfl rfl)
  win _ := keeps (win _)
  completeFrame _ _ := keeps (completeFrame _ _ _)
  collide _ _ := keeps (collide _ _)
  driveReply _ _ := keeps (.apart rfl rfl rfl)
  completeReply _ _ := keeps (.apart rfl rfl rfl)
  abandonReply _ _ := keeps (.apart rfl rfl rfl)
  closeUnanswered _ := keeps ((closeWindow _ _).trans (.apart rfl rfl rfl))
  lineFault reason _ _ := keeps (lineFault _ reason)
  recover {s} _ := by
    have recovered : Handles s (s.placeNotice .join).enterActive := .apart rfl rfl rfl
    exact keeps (recovered.trans (leaveOff _))
  listenOut := keeps (listenOut _)
  beaconOut := keeps (beaconOut _)
  renewalOut := keeps (renewalOut _)
  presenceOut peer := keeps (presenceOut _ peer)
  holdOut peer := keeps (holdOut _ peer)
  retryOut slot := keeps (retryOut _ slot)

end Handles

end Sys2Proof.Machine
end

/-! SUPPORT. The own address (R61, R86) and the queues of SILENT peers (R68): each elementary change of messages and
peer records keeps what the rules say of them. -/

section
namespace Sys2Proof.Machine

-- One proof at a time: a thread for each that waits for the same case split can run the checker out of memory.
set_option Elab.async false

/-! ### Slots after the elementary changes -/

theorem State.elapse_slot (s : State) (ms i : Nat) : (s.elapse ms).slot i = (s.slot i).countDown ms := by
  unfold State.slot State.elapse
  rw [Vector.getElem?_map]
  cases s.outbound.slots[i]? <;> rfl

/-- A countdown leaves a FREE slot, and a message for its destination, unresolved and marked as before. -/
theorem Slot.countDown_msg (ms : Nat) (x : Slot) : (x.countDown ms).msg = none ∧ x.msg = none ∨
    ∃ m m', x.msg = some m ∧ (x.countDown ms).msg = some m' ∧ m.Stays m' := by
  obtain ⟨tag, _ | ⟨dest, cls, payload, attempts, seq, state⟩⟩ := x
  · exact .inl ⟨rfl, rfl⟩
  · cases state
    case retryWait left =>
      exact .inr ⟨_, _, rfl, rfl, rfl, by simp [Message.Live], by simp [Message.Marked]⟩
    all_goals exact .inr ⟨_, _, rfl, rfl, rfl, id, id⟩

/-- A resolved slot holds no message that is not resolved (R137). -/
theorem State.resolve_self_not_live {s : State} {i : Nat} {r : MsgResult} {m : Message}
    (h : ((s.resolve i r).slot i).msg = some m) : ¬ m.Live := by
  intro hl
  cases hm : (s.slot i).msg with
  | none =>
    rw [s.resolve_free i r hm, hm] at h
    cases h
  | some m₀ =>
    by_cases live : m₀.Live
    · rw [State.resolve_slot_self hm live] at h
      split_ifs at h
      exact hl r (by rw [← Option.some.inj h])
    · obtain ⟨r', hr⟩ : ∃ r', m₀.state = .done r' := by simpa [Message.Live] using live
      rw [s.resolve_done i r r' m₀ hm hr, hm] at h
      exact live (Option.some.inj h ▸ hl)

/-- A resolution changes the destination of no message (R92). -/
theorem State.resolve_dest {s : State} {i j : Nat} {r : MsgResult} {m : Message}
    (h : ((s.resolve i r).slot j).msg = some m) : ∃ m₀, (s.slot j).msg = some m₀ ∧ m.dest = m₀.dest := by
  by_cases hji : j = i
  · subst hji
    cases hm : (s.slot j).msg with
    | none =>
      rw [s.resolve_free j r hm, hm] at h
      cases h
    | some m₀ =>
      refine ⟨m₀, rfl, ?_⟩
      by_cases live : m₀.Live
      · rw [State.resolve_slot_self hm live] at h
        split_ifs at h
        rw [← Option.some.inj h]
      · obtain ⟨r', hr⟩ : ∃ r', m₀.state = .done r' := by simpa [Message.Live] using live
        rw [s.resolve_done j r r' m₀ hm hr, hm] at h
        rw [Option.some.inj h]
  · exact ⟨m, by rwa [s.resolve_slot_other i r hji] at h, rfl⟩

/-! ### The own address -/

theorem State.notForSelf_iff (s : State) (i : Nat) :
    s.notForSelf i = true ↔ ∀ m, (s.slot i).msg = some m → m.dest ≠ s.station.address := by
  unfold State.notForSelf
  cases (s.slot i).msg with
  | none => simp
  | some m => simp

namespace OwnRecordInitial

theorem peer {s : State} (h : OwnRecordInitial s) : s.peer s.station.address = PeerRecord.initial := h.1

theorem dest {s : State} (h : OwnRecordInitial s) {i : Nat} {m : Message} (hm : (s.slot i).msg = some m) :
    m.dest ≠ s.station.address := by
  obtain ⟨-, others⟩ := h
  exact (s.notForSelf_iff i).mp (others i (s.slot_lt i m hm)) m hm

/-- Every message of `t` is for a destination of one of `s`, and the own record stands. -/
theorem after {s t : State} (h : OwnRecordInitial s) (address : t.station.address = s.station.address)
    (peer : t.peer s.station.address = s.peer s.station.address)
    (dests : ∀ i m, (t.slot i).msg = some m → m.dest ≠ s.station.address) : OwnRecordInitial t := by
  refine ⟨by rw [address, peer, h.peer], fun i _ => (t.notForSelf_iff i).mpr fun m hm => ?_⟩
  rw [address]
  exact dests i m hm

/-- The destinations stand while no slot changes. -/
theorem of_sameSlots {s t : State} (h : OwnRecordInitial s) (address : t.station.address = s.station.address)
    (peer : t.peer s.station.address = s.peer s.station.address) (slots : ∀ i, t.slot i = s.slot i) :
    OwnRecordInitial t :=
  h.after address peer fun i _ hm => h.dest (slots i ▸ hm)

/-- What is known for another station is not the own address. -/
theorem foreign {s : State} (h : OwnRecordInitial s) {a : Nat} (ha : s.Foreign a) : a ≠ s.station.address := by
  rcases ha with other | known | ⟨i, m, hm, rfl⟩
  · exact other
  · rintro rfl
    exact known h.peer
  · exact h.dest hm

theorem modPeer {s : State} {a : Nat} (f : PeerRecord → PeerRecord) (h : OwnRecordInitial s)
    (ha : a ≠ s.station.address) : OwnRecordInitial (s.modPeer a f) :=
  h.of_sameSlots (by simp) (s.peer_modPeer_other _ _ _ ha.symm) (s.modPeer_slot a · f)

theorem resolve {s : State} (i : Nat) (r : MsgResult) (h : OwnRecordInitial s) : OwnRecordInitial (s.resolve i r) := by
  have moves := s.resolve_moves i r
  refine h.after moves.1.station_address (State.peer_congr moves.2.1 _) fun j m hm => ?_
  obtain ⟨m₀, hm₀, hd⟩ := State.resolve_dest hm
  exact hd ▸ h.dest hm₀

theorem modMessage {s : State} {i : Nat} {f : Message → Message} (h : OwnRecordInitial s)
    (hf : ∀ m, (s.slot i).msg = some m → (f m).dest = m.dest) : OwnRecordInitial (s.modMessage i f) := by
  refine h.after (by simp) (State.peer_congr (by simp) _) fun j m hm => ?_
  by_cases hji : j = i
  · subst hji
    rw [State.slot_modMessage_self] at hm
    obtain ⟨m₀, hm₀, rfl⟩ := Option.map_eq_some_iff.mp hm
    exact hf m₀ hm₀ ▸ h.dest hm₀
  · rw [s.slot_modMessage_other i j f hji] at hm
    exact h.dest hm

theorem resolveWaiting {s : State} (r : MsgResult) (i : Nat) (h : OwnRecordInitial s) :
    OwnRecordInitial (State.resolveWaiting r s i) := by
  unfold State.resolveWaiting
  split
  · exact h
  · split
    exacts [h.resolve i r, h.resolve i r, h]

theorem setMark {s : State} (k : Mark) (i : Nat) (h : OwnRecordInitial s) : OwnRecordInitial (State.setMark k s i) := by
  obtain ⟨f, marks, stays⟩ := State.setMark_stays k s i
  exact marks ▸ h.modMessage fun m _ => (stays m).dest

theorem makeSilent {s : State} {a : Nat} (h : OwnRecordInitial s) (ha : a ≠ s.station.address) :
    OwnRecordInitial (s.makeSilent a) := by
  have resolved := foldl_invariant (State.resolveWaiting .peerSilent) OwnRecordInitial
    (fun _ i hs => resolveWaiting _ i hs) ((s.modPeer a PeerRecord.silenced).queue a) _ (h.modPeer PeerRecord.silenced ha)
  exact foldl_invariant (State.setMark .peerSilent) OwnRecordInitial (fun _ i hs => setMark _ i hs) _ _ resolved

theorem elapse {s : State} (ms : Nat) (h : OwnRecordInitial s) : OwnRecordInitial (s.elapse ms) := by
  refine h.after rfl ?_ fun i m hm => ?_
  · rw [s.elapse_peer, h.peer]
    rfl
  · rw [s.elapse_slot] at hm
    rcases (s.slot i).countDown_msg ms with ⟨free, -⟩ | ⟨m₀, m', hm₀, hm', stays⟩
    · cases free.symm.trans hm
    · obtain rfl := Option.some.inj (hm'.symm.trans hm)
      exact stays.dest ▸ h.dest hm₀

theorem setSlot {s : State} {i : Nat} {x : Slot} (h : OwnRecordInitial s)
    (hx : ∀ m, x.msg = some m → m.dest ≠ s.station.address) : OwnRecordInitial (s.setSlot i x) := by
  refine h.after rfl rfl fun j m hm => ?_
  by_cases hji : j = i
  · subst hji
    rw [s.slot_setSlot_self j x (by simpa using State.slot_lt _ j m hm)] at hm
    exact hx m hm
  · rw [s.slot_setSlot_other i j x hji] at hm
    exact h.dest hm

end OwnRecordInitial

theorem Handles.address {s t : State} (h : Handles s t) : t.station.address = s.station.address := by
  induction h with
  | apart _ _ address => exact address
  | trans _ _ first next => exact next.trans first
  | message i f _ => simp
  | resolve s i r => exact (s.resolve_settles i r).station_address
  | record a f _ _ => simp
  | silence a _ _ before => exact (State.makeSilent_settles _ a).station_address.trans before
  | records _ _ _ _ => rfl
  | elapse _ _ => rfl
  | allocate i tag m _ _ _ _ _ => simp
  | release i tag m _ _ => simp

/-- R61, R86: no operation touches the own record, or sends a message to the own address. -/
theorem Handles.ownRecordInitial {s t : State} (h : Handles s t) (own : OwnRecordInitial s) : OwnRecordInitial t := by
  induction h with
  | apart outbound peers address =>
    exact own.of_sameSlots address (State.peer_congr peers _) (State.slot_congr outbound)
  | trans _ _ first next => exact next (first own)
  | message i f stays => exact own.modMessage fun m hm => (stays m hm).dest
  | resolve s i r => exact own.resolve i r
  | record a f foreign _ => exact own.modPeer f (own.foreign foreign)
  | silence a before foreign kept =>
    exact (kept own).makeSilent (by rw [before.address]; exact own.foreign foreign)
  | records s f initial _ =>
    refine own.of_sameSlots rfl ?_ fun _ => rfl
    rw [s.peer_modPeers_map f initial, own.peer, initial]
  | elapse s ms => exact own.elapse ms
  | allocate i tag m _ _ _ other _ =>
    have set := own.setSlot (i := i) (x := ⟨tag, some m⟩) fun m' hm' => Option.some.inj hm' ▸ other
    exact set.of_sameSlots (by simp) (State.peer_congr (by simp) _) fun j => State.slot_modQueue _ _ j _
  | release i tag m _ _ => exact own.setSlot nofun

theorem State.resetWith_ownRecordInitial (s : State) (config : ConfigRecord) (reply : Option Reply)
    (straps : BitVec 5) (rxdMark : Bool) : OwnRecordInitial (s.resetWith config reply straps rxdMark) :=
  ⟨State.reset_peer _, fun i _ => (State.notForSelf_iff _ i).mpr fun m hm => by
    cases (congrArg Slot.msg (State.reset_slot i)).symm.trans hm⟩

/-- Settles O59: every change of a record or a message is for another station. -/
theorem stepKeepsOwnRecordInitial : Obligations.StepKeepsOwnRecordInitial := by
  unfold Obligations.StepKeepsOwnRecordInitial
  exact fun _ _ h ht =>
    (Handles.operationsKeep Handles.ownRecordInitial State.resetWith_ownRecordInitial).step h ht

/-! ### The queues of SILENT peers -/

/-- A changed queue reads as it was changed, or has none there; every other queue stands. -/
theorem State.queue_modQueue_cases (s : State) (e d : Nat) (f : List Nat → List Nat) :
    (s.modQueue e f).queue d = s.queue d ∨ (d = e ∧ (s.modQueue e f).queue d = f (s.queue d)) := by
  by_cases hd : d = e
  · subst hd
    by_cases range : d ∈ destinations
    · obtain ⟨low, high⟩ := (mem_destinations d).mp range
      exact .inr ⟨rfl, s.queue_modQueue_self d f (by omega) high⟩
    · exact .inl (by rw [State.queue_outside _ d range, State.queue_outside _ d range])
  · exact .inl (s.queue_modQueue_other e d f hd)

/-- R92: a resolution adds to no queue, and the message resolved leaves that of its destination. -/
theorem State.mem_queue_of_resolve {s : State} {i j d : Nat} {r : MsgResult} (h : j ∈ (s.resolve i r).queue d) :
    j ∈ s.queue d ∧ ∀ m, (s.slot i).msg = some m → m.Live → m.dest = d → j ≠ i := by
  by_cases unresolved : ∃ m, (s.slot i).msg = some m ∧ m.Live
  · obtain ⟨m, hm, hl⟩ := unresolved
    have handed : (s.resolve i r).queue d = (s.dequeue m.dest i).queue d := by
      rw [s.resolve_live i r m hm hl, State.queue_congr (State.watchQueues_outbound _), State.handOutcome]
      split <;> rfl
    rw [handed, State.dequeue] at h
    by_cases hd : d ∈ destinations
    · obtain ⟨low, high⟩ := (mem_destinations d).mp hd
      by_cases hdest : d = m.dest
      · subst hdest
        rw [s.queue_modQueue_self _ _ (by omega) high, List.mem_filter, decide_eq_true_eq] at h
        exact ⟨h.1, fun _ _ _ _ => h.2⟩
      · rw [s.queue_modQueue_other _ _ _ hdest] at h
        refine ⟨h, fun m' hm' _ hd' => absurd ?_ hdest⟩
        rw [← hd', Option.some.inj (hm.symm.trans hm')]
    · rw [State.queue_outside _ d hd] at h
      cases h
  · refine ⟨?_, fun m hm hl => absurd ⟨m, hm, hl⟩ unresolved⟩
    cases hm : (s.slot i).msg with
    | none => rwa [s.resolve_free i r hm] at h
    | some m =>
      obtain ⟨r', hr⟩ : ∃ r', m.state = .done r' := by simpa [Message.Live, hm] using unresolved
      rwa [s.resolve_done i r r' m hm hr] at h

/-- Each queue holds unresolved messages for its destination, and where `p` says marked ones only. -/
def State.QueuesHold (s : State) (p : Nat → Prop) : Prop :=
  ∀ d, ∀ i ∈ s.queue d, ∃ m, (s.slot i).msg = some m ∧ m.Live ∧ m.dest = d ∧ (p d → m.Marked)

/-- R68: and for a SILENT peer marked ones only. -/
abbrev State.SilentHoldMarked (s : State) : Prop := s.QueuesHold fun a => (s.peer a).presence = .silent

namespace State.QueuesHold
variable {p : Nat → Prop}

theorem mono {q : Nat → Prop} {s : State} (h : s.QueuesHold p) (hq : ∀ d, q d → p d) : s.QueuesHold q := by
  intro d i hi
  obtain ⟨m, hm, live, dest, marked⟩ := h d i hi
  exact ⟨m, hm, live, dest, marked ∘ hq d⟩

/-- No slot joins a queue, and in the queues messages stay what they are. -/
theorem after {s t : State} (h : s.QueuesHold p) (queues : ∀ d, ∀ i ∈ t.queue d, i ∈ s.queue d)
    (slots : ∀ d, ∀ i ∈ t.queue d, ∀ m, (s.slot i).msg = some m → m.Live → m.dest = d →
      ∃ m', (t.slot i).msg = some m' ∧ m.Stays m') : t.QueuesHold p := by
  intro d i hi
  obtain ⟨m, hm, live, dest, marked⟩ := h d i (queues d i hi)
  obtain ⟨m', hm', stays⟩ := slots d i hi m hm live dest
  exact ⟨m', hm', stays.live live, stays.dest.trans dest, fun hp => stays.marked (marked hp)⟩

theorem of_outbound {s t : State} (h : s.QueuesHold p) (same : t.outbound = s.outbound) : t.QueuesHold p :=
  h.after (fun d _ hi => State.queue_congr same d ▸ hi)
    fun _ i _ m hm _ _ => ⟨m, by rwa [State.slot_congr same], rfl, id, id⟩

theorem resolve {s : State} (i : Nat) (r : MsgResult) (h : s.QueuesHold p) : (s.resolve i r).QueuesHold p := by
  refine h.after (fun d j hj => (State.mem_queue_of_resolve hj).1) fun d j hj m hm live dest => ?_
  have hne : j ≠ i := by
    rintro rfl
    exact (State.mem_queue_of_resolve hj).2 m hm live dest rfl
  exact ⟨m, by rwa [s.resolve_slot_other i r hne], rfl, id, id⟩

theorem modMessage {s : State} {i : Nat} {f : Message → Message} (h : s.QueuesHold p)
    (stays : ∀ m, (s.slot i).msg = some m → m.Stays (f m)) : (s.modMessage i f).QueuesHold p := by
  refine h.after (fun d j hj => by rwa [s.queue_modMessage] at hj) fun d j _ m hm _ _ => ?_
  by_cases hji : j = i
  · subst hji
    exact ⟨f m, by rw [State.slot_modMessage_self, hm]; rfl, stays m hm⟩
  · exact ⟨m, by rwa [s.slot_modMessage_other i j f hji], rfl, id, id⟩

theorem resolveWaiting {s : State} (r : MsgResult) (i : Nat) (h : s.QueuesHold p) :
    (State.resolveWaiting r s i).QueuesHold p := by
  unfold State.resolveWaiting
  split
  · exact h
  · split
    exacts [h.resolve i r, h.resolve i r, h]

theorem setMark {s : State} (k : Mark) (i : Nat) (h : s.QueuesHold p) : (State.setMark k s i).QueuesHold p := by
  obtain ⟨f, marks, stays⟩ := State.setMark_stays k s i
  exact marks ▸ h.modMessage fun m _ => stays m

theorem elapse {s : State} (ms : Nat) (h : s.QueuesHold p) : (s.elapse ms).QueuesHold p := by
  refine h.after (fun _ _ hi => hi) fun d i _ m hm _ _ => ?_
  rw [s.elapse_slot]
  rcases (s.slot i).countDown_msg ms with ⟨-, free⟩ | ⟨m₀, m', hm₀, hm', stays⟩
  · cases free.symm.trans hm
  · exact ⟨m', hm', Option.some.inj (hm₀.symm.trans hm) ▸ stays⟩

/-- A FREE slot stands in no queue, so a message put in it is the new one of its queue. -/
theorem allocate {s : State} {i : Nat} {m : Message} (tag : Nat) (h : s.QueuesHold p) (hi : i < 48)
    (free : (s.slot i).msg = none) (live : m.Live) (unmarked : ¬ p m.dest) :
    ((s.setSlot i ⟨tag, some m⟩).modQueue m.dest fun q => q ++ [i]).QueuesHold p := by
  have old {d j : Nat} (hj : j ∈ s.queue d) :
      ∃ m', ((s.setSlot i ⟨tag, some m⟩).slot j).msg = some m' ∧ m'.Live ∧ m'.dest = d ∧ (p d → m'.Marked) := by
    obtain ⟨m', hm', rest⟩ := h d j hj
    have hne : j ≠ i := by
      rintro rfl
      cases free.symm.trans hm'
    exact ⟨m', by rwa [s.slot_setSlot_other i j _ hne], rest⟩
  intro d j hj
  rw [State.slot_modQueue]
  rcases State.queue_modQueue_cases (s.setSlot i ⟨tag, some m⟩) m.dest d fun q => q ++ [i] with same | ⟨rfl, joins⟩
  · rw [same] at hj
    exact old hj
  · rw [joins, List.mem_append, List.mem_singleton] at hj
    rcases hj with hj | rfl
    · exact old hj
    · exact ⟨m, by rw [s.slot_setSlot_self _ _ hi], live, rfl, fun hp => absurd hp unmarked⟩

/-- A DONE slot stands in no queue. -/
theorem release {s : State} {i : Nat} {m : Message} (tag : Nat) (h : s.QueuesHold p) (held : (s.slot i).msg = some m)
    (done : ¬ m.Live) : (s.setSlot i ⟨tag, none⟩).QueuesHold p := by
  refine h.after (fun _ _ hi => hi) fun d j _ m' hm' live _ => ?_
  have hne : j ≠ i := by
    rintro rfl
    exact done (Option.some.inj (held.symm.trans hm') ▸ live)
  exact ⟨m', by rwa [s.slot_setSlot_other i j _ hne], rfl, id, id⟩

end State.QueuesHold

/-- A resolution of the waiting messages leaves none that waits among its slots (R93). -/
theorem State.resolveWaiting_bulkOutcome {s : State} {r : MsgResult} {i j : Nat}
    (h : j = i ∨ s.bulkOutcome r j = none) : (State.resolveWaiting r s i).bulkOutcome r j = none := by
  cases hb : s.bulkOutcome r i with
  | none =>
    rw [State.resolveWaiting_of_not_bulk hb]
    rcases h with rfl | h
    exacts [hb, h]
  | some o =>
    obtain ⟨m, hm, hl, -, resolved⟩ := State.resolveWaiting_of_bulk hb
    rw [resolved]
    by_cases hji : j = i
    · subst hji
      rw [State.bulkOutcome, State.resolve_slot_self hm hl]
      split_ifs <;> rfl
    · rw [State.bulkOutcome_congr (s.resolve_slot_other i r hji)]
      exact h.resolve_left hji

theorem State.foldl_resolveWaiting_bulkOutcome {r : MsgResult} {j : Nat} (l : List Nat) {s : State}
    (h : j ∈ l ∨ s.bulkOutcome r j = none) : (l.foldl (State.resolveWaiting r) s).bulkOutcome r j = none := by
  induction l generalizing s with
  | nil => exact h.resolve_left List.not_mem_nil
  | cons i l ih =>
    rw [List.mem_cons, or_assoc] at h
    rcases h with rfl | h | h
    exacts [ih (.inr (State.resolveWaiting_bulkOutcome (.inl rfl))), ih (.inl h),
      ih (.inr (State.resolveWaiting_bulkOutcome (.inr h)))]

/-- R68: what waits for the peer made SILENT is resolved, and what does not is marked. -/
theorem State.SilentHoldMarked.makeSilent {s : State} (a : Nat) (h : s.SilentHoldMarked) :
    (s.makeSilent a).SilentHoldMarked := by
  have start : (s.modPeer a PeerRecord.silenced).QueuesHold fun b => (s.peer b).presence = .silent :=
    h.of_outbound (s.modPeer_outbound a _)
  have resolved : (s.silenceWaiting a).QueuesHold fun b => (s.peer b).presence = .silent :=
    foldl_invariant _ (State.QueuesHold · _) (fun _ i hs => hs.resolveWaiting _ i) _ _ start
  have shrinks : ∀ i ∈ (s.silenceWaiting a).queue a, i ∈ (s.modPeer a PeerRecord.silenced).queue a := by
    refine foldl_invariant (State.resolveWaiting .peerSilent)
      (fun u => ∀ i ∈ u.queue a, i ∈ (s.modPeer a PeerRecord.silenced).queue a) (fun u j hu i hi => hu i ?_) _ _
      fun _ hi => hi
    unfold State.resolveWaiting at hi
    split at hi
    · exact hi
    · split at hi
      exacts [(State.mem_queue_of_resolve hi).1, (State.mem_queue_of_resolve hi).1, hi]
  have marked : (s.makeSilent a).QueuesHold fun b => (s.peer b).presence = .silent :=
    foldl_invariant _ (State.QueuesHold · _) (fun _ i hs => hs.setMark _ i) _ _ resolved
  intro d i hi
  obtain ⟨m, hm, live, dest, stood⟩ := marked d i hi
  refine ⟨m, hm, live, dest, fun (silent : ((s.makeSilent a).peer d).presence = .silent) => ?_⟩
  by_cases hd : d = a
  · subst hd
    have there : i ∈ (s.silenceWaiting d).queue d := by
      rwa [State.makeSilent_eq, State.markQueue_queue] at hi
    obtain ⟨m₀, hm₀, live₀, -⟩ := resolved d i there
    have slot := State.markQueue_slot (s.silenceWaiting d) d .peerSilent i
    rw [if_pos there] at slot
    have isMarked := State.isMarked_of_withMark (k := .peerSilent) hm₀ live₀
      (State.foldl_resolveWaiting_bulkOutcome _ (.inl (shrinks i there))) slot
    obtain ⟨m', hm', mark⟩ := (State.isMarked_iff _ _).mp isMarked
    exact Option.some.inj (hm'.symm.trans hm) ▸ mark
  · rw [State.makeSilent_peer, State.peer_modPeer_other _ _ _ _ hd] at silent
    exact stood silent

/-- R68, R86: no message without a mark joins the queue of a SILENT peer, and no such peer becomes SILENT. -/
theorem Handles.silentHoldMarked {s t : State} (h : Handles s t) (hold : s.SilentHoldMarked) :
    t.SilentHoldMarked := by
  induction h with
  | apart outbound peers _ =>
    exact (hold.of_outbound outbound).mono fun d hd => by rwa [State.peer_congr peers] at hd
  | trans _ _ first next => exact next (first hold)
  | message i f stays =>
    exact (hold.modMessage stays).mono fun d hd => by rwa [State.peer_congr (State.modMessage_peers _ _ _)] at hd
  | resolve s i r =>
    exact (hold.resolve i r).mono fun d hd => by rwa [State.peer_congr (s.resolve_moves i r).2.1] at hd
  | @record s a f _ presence =>
    refine (hold.of_outbound (s.modPeer_outbound a f)).mono fun d hd => ?_
    rcases s.peer_modPeer_cases a d f with same | ⟨rfl, changed⟩
    · rwa [same] at hd
    · exact presence (changed ▸ hd)
  | silence a _ _ kept => exact (kept hold).makeSilent a
  | records s f initial presence =>
    refine (hold.of_outbound rfl).mono fun d hd => presence _ ?_
    rwa [s.peer_modPeers_map f initial] at hd
  | elapse s ms =>
    refine State.QueuesHold.mono (hold.elapse ms) fun d hd => ?_
    rwa [s.elapse_peer] at hd
  | @allocate s i tag m hi free live _ presence =>
    refine State.QueuesHold.mono (hold.allocate tag hi free live presence) fun d hd => ?_
    rwa [State.peer_congr (State.modQueue_peers _ _ _)] at hd
  | @release s i tag m held done =>
    exact hold.release tag held done

theorem State.resetWith_silentHoldMarked (s : State) (config : ConfigRecord) (reply : Option Reply)
    (straps : BitVec 5) (rxdMark : Bool) : (s.resetWith config reply straps rxdMark).SilentHoldMarked := by
  intro d i hi
  have empty : (s.resetWith config reply straps rxdMark).queue d = [] := State.reset_queue d
  rw [empty] at hi
  cases hi

/-- Settles O60: of a consistent store the queues hold unresolved messages for their destination, which with the marks
of the SILENT peers every operation keeps. -/
theorem stepKeepsSilentQueueMarked : Obligations.StepKeepsSilentQueueMarked := by
  unfold Obligations.StepKeepsSilentQueueMarked
  intro s t consistent marked ht a _ silent i hi
  have hold : s.SilentHoldMarked := by
    intro d j hj
    obtain ⟨m, hm, live, dest⟩ := consistent.of_mem_queue hj
    refine ⟨m, hm, live, dest, fun (hs : (s.peer d).presence = .silent) => ?_⟩
    have range : d ∈ List.range' 1 Config.peers := by
      by_contra out
      rw [s.peer_outside d (by rw [peerRange_iff] at out; omega)] at hs
      cases hs
    obtain ⟨m', hm', mark⟩ := (s.isMarked_iff j).mp (marked d range hs j hj)
    exact Option.some.inj (hm'.symm.trans hm) ▸ mark
  have kept := (Handles.operationsKeep Handles.silentHoldMarked State.resetWith_silentHoldMarked).step hold ht
  obtain ⟨m, hm, -, -, mark⟩ := kept a i hi
  exact (t.isMarked_iff i).mpr ⟨m, hm, mark silent⟩

end Sys2Proof.Machine
end

/-! SUPPORT. READ PEER (R77). -/

section
namespace Sys2Proof.Machine

/-- Table 10-7: the flags byte of a record. -/
theorem PeerRecord.presentFlags (p : PeerRecord) : p.epoch.isSome.toNat + 2 * p.lastAccepted.isSome.toNat =
    (if p.epoch.isSome then 1 else 0) + (if p.lastAccepted.isSome then 2 else 0) := by
  cases p.epoch <;> cases p.lastAccepted <;> rfl

/-- Settles O22: the address is refused, or the record's bytes are the reply. -/
theorem readPeerShowsRecord : Obligations.ReadPeerShowsRecord := by
  unfold Obligations.ReadPeerShowsRecord
  refine fun address s free => ⟨fun out => ?_, fun low high other => ?_⟩
  · refine congrArg Host.Outcome.next (State.present_unchanged s _ _ _ free ?_)
    exact if_pos out
  · have shown : answerReadPeer address s =
        ⟨s, .ok, (s.peer address.toNat).bytes (s.queue address.toNat).length⟩ := if_neg (by omega)
    refine congrArg Host.Outcome.next ((State.present_free s _ _ free).trans ?_)
    rw [shown, PeerRecord.bytes, PeerRecord.presentFlags]
    cases (s.peer address.toNat).presence <;> rfl

end Sys2Proof.Machine
end

/-! SUPPORT. A frame of another station (R15, R64, R67): its sender's record afterwards, outside a reply window and in
one. -/

section
namespace Sys2Proof.Machine

/-! ### Frames with no further effect -/

/-- The valid frames of another station that outside a reply window update their sender's record alone (R15). -/
def Frame.OnlyTells (f : Frame) (s : State) : Prop :=
  f.kind ∈ [.notice .join, .notice .beacon, .notice .hold, .ack, .refuse] ∨
    (f.dest ≠ s.station.address ∧ f.kind = .data) ∨
    (f.dest ≠ s.station.address ∧ f.dest ≠ 31 ∧ f.kind = .datagram) ∨
    (f.kind ∈ [.data, .datagram] ∧ s.station.state ∈ [.joining, .lineFault])

/-- Outside service no DATA or DATAGRAM frame is taken (R47, R123). -/
theorem State.receive_outside_service {s : State} (h : s.station.state = .joining ∨ s.station.state = .lineFault)
    (f : Frame) :
    s.receiveData f = s ∧ s.receiveDatagram f = s := by
  have outside : ¬ s.inService = true := by
    rcases h with hs | hs <;> simp [State.inService, hs]
  exact ⟨if_neg outside, if_neg outside⟩

/-- Outside a reply window no frame is its reply (R108). -/
theorem State.windowReply_outside {s : State} (h : s.access.state ≠ .awaitReply) (f : Frame) :
    s.windowReply f = .noReply := if_neg fun ⟨hs, _⟩ => h hs

/-- R15, R112: of a frame that only tells, a reply addressed here is counted stray, and nothing else happens. -/
theorem State.route_onlyTells {s : State} {f : Frame} (h : f.OnlyTells s) (hw : s.access.state ≠ .awaitReply) :
    s.route f = if f.kind ∈ [.ack, .refuse] ∧ f.dest = s.station.address then s.count .strayReplies else s := by
  have noReply := State.windowReply_outside hw f
  unfold State.route
  cases hk : f.kind with
  | data =>
    have untaken : f.dest ≠ s.station.address ∨ s.receiveData f = s := by
      have told : f.dest ≠ s.station.address ∨ s.station.state = .joining ∨ s.station.state = .lineFault := by
        simpa [Frame.OnlyTells, hk] using h
      exact told.imp_right fun hs => (State.receive_outside_service hs f).1
    rcases untaken with elsewhere | same
    · simp [elsewhere]
    · simp [same]
  | datagram =>
    have untaken : (f.dest ≠ s.station.address ∧ f.dest ≠ 31) ∨ s.receiveDatagram f = s := by
      have told : (f.dest ≠ s.station.address ∧ f.dest ≠ 31) ∨
          s.station.state = .joining ∨ s.station.state = .lineFault := by simpa [Frame.OnlyTells, hk] using h
      exact told.imp_right fun hs => (State.receive_outside_service hs f).2
    rcases untaken with elsewhere | same
    · simp [elsewhere]
    · simp [same]
  | ack => simp [noReply]
  | refuse => simp [noReply]
  | notice reason =>
    cases reason with
    | leave => simp [Frame.OnlyTells, hk] at h
    | _ => simp

theorem State.route_onlyTells_unchanged {s : State} {f : Frame} (h : f.OnlyTells s)
    (hw : s.access.state ≠ .awaitReply) : UnchangedBut [.counters] s (s.route f) ∧
      (s.route f).counters =
        if f.kind ∈ [.ack, .refuse] ∧ f.dest = s.station.address then s.counters.bump .strayReplies
        else s.counters := by
  rw [State.route_onlyTells h hw]
  split_ifs
  exacts [⟨s.count_unchanged _, rfl⟩, ⟨.refl _ s, rfl⟩]

/-- R64: what a frame other than a LEAVE notice says of its sender. -/
theorem PeerRecord.heard_eq (config : ConfigRecord) {f : Frame} (hk : f.kind ≠ .notice .leave) (p : PeerRecord) :
    p.heard config f =
      { p with
        presence := .present
        presenceTimer := .running (3 * (config.beacon * 100))
        epoch := some f.epoch
        lastAccepted := if p.epoch = some f.epoch then p.lastAccepted else none
        held := f.h
        holdTimer := if f.h then .running (config.holdTime * 10) else .stopped } := by
  unfold PeerRecord.heard
  rw [if_neg hk]
  cases hh : f.h <;> by_cases he : p.epoch = some f.epoch <;>
    simp [he, ConfigRecord.presenceMs, ConfigRecord.beaconMs, ConfigRecord.holdMs]

/-- The state in which the valid frame that ends a burst outside a reply window is taken. -/
def State.frameHeard (s : State) : State := s.lineEnded.count .framesHeard

theorem State.frameHeard_unchanged (s : State) : UnchangedBut [.line, .access, .counters] s s.frameHeard :=
  s.lineEnded_unchanged.append (State.count_unchanged _ _)

theorem State.learn_unchanged (s : State) (f : Frame) : UnchangedBut [.peers] s (s.learn f) :=
  s.modPeer_unchanged _ _

/-- The state in which a frame of another station is routed: heard and counted, its sender's record updated (R15). -/
def State.told (s : State) (f : Frame) : State := s.frameHeard.learn f

theorem State.told_unchanged (s : State) (f : Frame) : UnchangedBut [.line, .access, .counters, .peers] s (s.told f) :=
  s.frameHeard_unchanged.append (s.frameHeard.learn_unchanged f)

theorem State.told_access (s : State) (f : Frame) : (s.told f).access = { s.access with stuck := false } :=
  State.modPeer_access _ _ _

theorem State.told_line (s : State) (f : Frame) : (s.told f).line = Line.ended := State.modPeer_line _ _ _

theorem State.told_counters (s : State) (f : Frame) : (s.told f).counters = s.counters.bump .framesHeard :=
  State.modPeer_counters _ _ _

theorem State.told_station (s : State) (f : Frame) : (s.told f).station = s.station := State.modPeer_station _ _ _

theorem State.told_peer (s : State) {f : Frame} (hf : 1 ≤ f.source ∧ f.source ≤ 30) :
    (s.told f).peer f.source = (s.peer f.source).heard s.station.config f := s.frameHeard.learn_peer hf

theorem State.told_peer_other (s : State) (f : Frame) {a : Nat} (ha : a ≠ f.source) : (s.told f).peer a = s.peer a :=
  s.frameHeard.peer_modPeer_other f.source a _ ha

/-- Outside a reply window a frame of another station that leaves the line and the access controller alone is routed,
and then the access controller takes the end of the burst (R22, R23). -/
theorem exec_endOfFrame_told {s : State} {rxd : Levels} {f : Frame} (hf : HearsFrame s rxd f)
    (hsource : f.source ≠ s.station.address) (hw : s.access.state ≠ .awaitReply) {changed : List Block}
    (routed : UnchangedBut changed (s.told f) ((s.told f).route f)) (hl : .line ∉ changed) (ha : .access ∉ changed) :
    exec (.endOfFrame rxd) s = .next (((s.told f).route f).modAccess fun _ =>
      { s.access with state := afterBurst s.access.state ((s.told f).route f).wantsLine, stuck := false }) := by
  have line : ((s.told f).route f).line = Line.ended := by
    rw [(routed .line hl : _ = (s.told f).line), s.told_line]
  have access : ((s.told f).route f).access = { s.access with stuck := false } := by
    rw [(routed .access ha : _ = (s.told f).access), s.told_access]
  have taken : s.frameHeard.takeValid f = (s.told f).route f := State.takeValid_other hsource
  rw [exec_endOfFrame_of_frame hf hw]
  show Host.Outcome.next ((s.frameHeard.takeValid f).accessEnded _) = _
  rw [taken, State.accessEnded_outside (by rwa [access]) (State.lineIdle_of_ended line), State.modAccess, access]
  rfl

/-- Settles O41: the sender's record, the stray reply, and the end of the burst. -/
theorem heardFrameUpdatesPeer : Obligations.HeardFrameUpdatesPeer := by
  unfold Obligations.HeardFrameUpdatesPeer
  intro s rxd f hf hsource hw tells
  have range := State.found_source hf.2
  have told : f.OnlyTells (s.told f) := by rwa [Frame.OnlyTells, s.told_station]
  have kind : f.kind ≠ .notice .leave := fun hk => by simp [Frame.OnlyTells, hk] at told
  obtain ⟨routed, counters⟩ := State.route_onlyTells_unchanged told (by rwa [s.told_access])
  have peers : ((s.told f).route f).peers = (s.told f).peers := routed .peers (by decide)
  have line : ((s.told f).route f).line = (s.told f).line := routed .line (by decide)
  rw [s.told_station, s.told_counters] at counters
  refine ⟨_, exec_endOfFrame_told hf hsource hw routed (by decide) (by decide),
    (((s.told_unchanged f).append routed).append (State.modAccess_unchanged _ _)).mono (by decide), counters, ?_,
    fun a ha => (State.peer_congr peers a).trans (s.told_peer_other f ha), line.trans (s.told_line f), rfl⟩
  exact (State.peer_congr peers _).trans ((s.told_peer range).trans (PeerRecord.heard_eq _ kind _))

/-! ### A departure -/

/-- What making the peer `a` SILENT leaves of the messages of a consistent part (R68, R93). -/
structure Silences (s t : State) (a : Nat) : Prop where
  owed : t.owedOutcomes = s.owedOutcomes ++ s.bulkOutcomes .peerSilent a
  marked : LeavesMarked s t .peerSilent a
  others : ∀ d, d ≠ a → t.queue d = s.queue d

theorem State.makeSilent_silences {s : State} (h : StoreConsistent s) (a : Nat) : Silences s (s.makeSilent a) a := by
  have queue := State.makeSilent_queue_self h a
  refine ⟨State.makeSilent_owed h a, ⟨queue, fun i hi => ?_⟩, fun d => State.makeSilent_queue_other h a⟩
  rw [queue, List.mem_filter, Option.isNone_iff_eq_none] at hi
  obtain ⟨hi, hb⟩ := hi
  obtain ⟨m, hm, live, -⟩ := h.of_mem_queue hi
  have slot := State.makeSilent_slot_marked h a hi hb
  exact ⟨State.isMarked_of_withMark (k := .peerSilent) hm live hb slot, slot⟩

/-- Of the state before, the queues, the outcomes and the slots that do not wait matter. -/
theorem Silences.of_before {s s' t : State} {a : Nat} (h : Silences s' t a) (owed : s'.owedOutcomes = s.owedOutcomes)
    (queue : ∀ d, s'.queue d = s.queue d) (bulk : s'.bulkOutcome .peerSilent = s.bulkOutcome .peerSilent)
    (slot : ∀ i, s.bulkOutcome .peerSilent i = none → s'.slot i = s.slot i) : Silences s t a := by
  obtain ⟨left, kept⟩ := h.marked
  rw [queue, Mark.result, bulk] at left
  refine ⟨by rw [h.owed, owed, State.bulkOutcomes, State.bulkOutcomes, queue, bulk], ⟨left, fun i hi => ?_⟩,
    fun d hd => (h.others d hd).trans (queue d)⟩
  obtain ⟨mark, same⟩ := kept i hi
  rw [left, List.mem_filter, Option.isNone_iff_eq_none] at hi
  exact ⟨mark, by rw [same, slot i hi.2]⟩

/-- Before and after, only the messages and the outcome lists matter. -/
theorem Silences.of_blocks {s s' t t' : State} {a : Nat} (h : Silences s' t' a) (hs : s'.outbound = s.outbound)
    (hso : s'.outcomes = s.outcomes) (ht : t.outbound = t'.outbound) (hto : t.outcomes = t'.outcomes) :
    Silences s t a := by
  have slot := State.slot_congr hs
  have after : Silences s' t a := by
    obtain ⟨left, kept⟩ := h.marked
    have queue := State.queue_congr ht
    refine ⟨(State.owedOutcomes_congr hto fun i _ => State.doneOutcome_congr (State.slot_congr ht i)).trans h.owed,
      ⟨(queue a).trans left, fun i hi => ?_⟩, fun d hd => (queue d).trans (h.others d hd)⟩
    rw [queue] at hi
    rw [State.isMarked, State.slot_congr ht]
    exact kept i hi
  exact after.of_before (State.owedOutcomes_congr hso fun i _ => State.doneOutcome_congr (slot i))
    (State.queue_congr hs) (funext fun i => State.bulkOutcome_congr (slot i) _) fun i _ => slot i

/-- R67: the record of a departed peer keeps its next tx sequence alone. -/
theorem State.departure_peer (s : State) {a : Nat} (ha : 1 ≤ a ∧ a ≤ 30) :
    (s.departure a).peer a = ⟨.silent, .stopped, false, .stopped, none, none, (s.peer a).nextTx⟩ := by
  have low : a ≠ 0 := by omega
  rw [State.departure, State.peer_modPeer_self _ _ _ low ha.2, State.makeSilent_peer,
    State.peer_modPeer_self _ _ _ low ha.2]
  rfl

theorem State.departure_peer_other (s : State) {a b : Nat} (hb : b ≠ a) : (s.departure a).peer b = s.peer b := by
  rw [State.departure, State.peer_modPeer_other _ _ _ _ hb, State.makeSilent_peer,
    State.peer_modPeer_other _ _ _ _ hb]

/-- No frame says anything of the next tx sequence (R64). -/
theorem PeerRecord.heard_nextTx (config : ConfigRecord) (f : Frame) (p : PeerRecord) :
    (p.heard config f).nextTx = p.nextTx := by
  unfold PeerRecord.heard
  dsimp only
  split_ifs <;> rfl

/-- Settles O42: the frame is routed to the departure, and then the access controller takes the end of the burst. -/
theorem leaveNoticeDeparts : Obligations.LeaveNoticeDeparts := by
  unfold Obligations.LeaveNoticeDeparts
  intro s rxd f hf hsource hw hk consistent
  have range := State.found_source hf.2
  have departs : (s.told f).route f = (s.told f).departure f.source := by rw [State.route, hk]
  have departed := (s.told f).departure_unchanged f.source
  have told := s.told_unchanged f
  have outbound : (s.told f).outbound = s.outbound := told .outbound (by decide)
  have outcomes : (s.told f).outcomes = s.outcomes := told .outcomes (by decide)
  have silences : Silences s ((s.told f).departure f.source) f.source :=
    (State.makeSilent_silences (consistent.of_blocks outbound outcomes) f.source).of_blocks outbound outcomes
      (State.modPeer_outbound _ _ _) (State.modPeer_outcomes _ _ _)
  have station := ((s.told f).departure_settles f.source).station
  rw [s.told_station] at station
  have ended := exec_endOfFrame_told hf hsource hw (departs ▸ departed) (by decide) (by decide)
  rw [departs] at ended
  refine ⟨_, ended, ((told.append departed).append (State.modAccess_unchanged _ _)).mono (by decide),
    Eq.trans (departed .counters (by decide)) (s.told_counters f), ?_, fun a ha => ?_, silences.owed, silences.marked,
    silences.others, station⟩
  · refine ((s.told f).departure_peer range).trans ?_
    rw [s.told_peer range, PeerRecord.heard_nextTx]
  · exact ((s.told f).departure_peer_other ha).trans (s.told_peer_other f ha)

end Sys2Proof.Machine
end

/-! SUPPORT. The timers of the peers and the retry timer (R66, R72, R113): each run out or not, and a frame of the peer
at the same instant (R71, R74). -/

section
namespace Sys2Proof.Machine

/-! ### Time that passes -/

/-- No time changes nothing. -/
theorem State.elapse_zero (s : State) : s.elapse 0 = s := by
  have record : PeerRecord.countDown 0 = id := by
    funext p
    simp [PeerRecord.countDown]
  have slot : Slot.countDown 0 = id := by
    funext x
    obtain ⟨tag, _ | ⟨dest, cls, payload, attempts, seq, state⟩⟩ := x
    · rfl
    · cases state <;> rfl
  simp [State.elapse, record, slot]

/-- Time changes of a slot the retry timer alone (R113). -/
theorem Slot.countDown_eq (ms : Nat) (x : Slot) : x.countDown ms = ⟨x.tag, x.msg.map fun m =>
    { m with state := match m.state with
      | .retryWait left => .retryWait (left - ms)
      | st => st }⟩ := by
  obtain ⟨tag, _ | ⟨dest, cls, payload, attempts, seq, state⟩⟩ := x
  · rfl
  · cases state <;> rfl

section
variable (s : State) (ms : Nat)

/-- Which outcome a slot has, now or when its queue is resolved, is no matter of time. -/
theorem State.elapse_bulkOutcome (r : MsgResult) : (s.elapse ms).bulkOutcome r = s.bulkOutcome r := by
  funext i
  unfold State.bulkOutcome State.outcomeOf
  rw [s.elapse_slot, Slot.countDown_eq]
  cases (s.slot i).msg with
  | none => rfl
  | some m => cases hm : m.state <;> simp [hm]

theorem State.elapse_owed : (s.elapse ms).owedOutcomes = s.owedOutcomes := by
  refine State.owedOutcomes_congr rfl fun i _ => ?_
  unfold State.doneOutcome
  rw [s.elapse_slot, Slot.countDown_eq]
  cases (s.slot i).msg with
  | none => rfl
  | some m => cases hm : m.state <;> simp [hm]

/-- A message that does not wait is no matter of time. -/
theorem State.elapse_slot_of_not_bulk {r : MsgResult} {i : Nat} (h : s.bulkOutcome r i = none) :
    (s.elapse ms).slot i = s.slot i := by
  rw [s.elapse_slot, Slot.countDown]
  split
  · rfl
  · next m hm =>
    split
    · next left hw => simp [State.bulkOutcome, hm, hw] at h
    · rfl

variable {s} in
/-- Where a slot stands is no matter of time (R83). -/
theorem State.elapse_consistent (h : StoreConsistent s) : StoreConsistent (s.elapse ms) := by
  refine h.congr (fun i => ?_) (fun i => ?_) (fun _ => rfl) rfl
  · unfold State.slotPlaced
    rw [s.elapse_slot, Slot.countDown_eq]
    cases (s.slot i).msg with
    | none => rfl
    | some m => cases hm : m.state <;> simp [hm] <;> rfl
  · unfold State.isQueued
    rw [s.elapse_slot, Slot.countDown_eq]
    cases (s.slot i).msg with
    | none => rfl
    | some m => cases hm : m.state <;> simp [hm]

end

/-! ### R22 after an expiry -/

/-- R22: of the access controller the state alone, out of IDLE where the station now wants the line. -/
theorem State.applyWants_access (s : State) : s.applyWants.access = { s.access with state := s.applyWants.access.state } ∧
    s.applyWants.access.state =
      if s.access.state = .idle ∧ s.applyWants.wantsLine = true then (if s.lineIdle = true then .gap else .defer)
      else s.access.state := by
  rw [State.applyWants_eq]
  exact ⟨rfl, rfl⟩

/-- R22 does not drive the line. -/
theorem State.applyWants_de {s : State} (h : s.de = false) : s.applyWants.de = false := by
  unfold State.applyWants
  refine ite_keeps (inv := fun s => s.de = false) h fun _ => ?_
  cases hl : s.lineIdle <;> simp [State.de]

/-! ### Expiries -/

/-- R66: not PRESENT, or not run out, the peer stays as it is. -/
theorem exec_presenceTimeout_early {s : State} {a elapsed : Nat} (h : (s.peer a).presence ≠ .present ∨
    ∀ ms, (s.peer a).presenceTimer = .running ms → elapsed < ms) :
    exec (.presenceTimeout a elapsed) s = .next (s.elapse elapsed) := by
  refine congrArg Host.Outcome.next (if_neg fun ⟨present, due⟩ => ?_)
  rw [s.elapse_peer] at present due
  exact h.elim (fun absent => absent present) fun early => Timer.not_due_of_lt early due

theorem exec_presenceTimeout_due {s : State} {a ms elapsed : Nat} (present : (s.peer a).presence = .present)
    (timer : (s.peer a).presenceTimer = .running ms) (out : ms ≤ elapsed) :
    exec (.presenceTimeout a elapsed) s = .next ((s.elapse elapsed).makeSilent a).applyWants := by
  refine congrArg Host.Outcome.next (if_pos ?_)
  rw [s.elapse_peer]
  exact ⟨present, (Timer.countDown_due _ _).mpr ⟨ms, timer, out⟩⟩

/-- R72: OPEN, or not run out, the peer stays as it is. -/
theorem exec_holdTimerExpiry_early {s : State} {a elapsed : Nat} (h : (s.peer a).held = false ∨
    ∀ ms, (s.peer a).holdTimer = .running ms → elapsed < ms) :
    exec (.holdTimerExpiry a elapsed) s = .next (s.elapse elapsed) := by
  refine congrArg Host.Outcome.next (if_neg fun ⟨held, due⟩ => ?_)
  rw [s.elapse_peer] at held due
  exact h.elim (fun opened => by simp [PeerRecord.countDown, opened] at held) fun early => Timer.not_due_of_lt early due

/-- R72: a hold that has lapsed. -/
def PeerRecord.opened (p : PeerRecord) : PeerRecord := { p with held := false, holdTimer := .stopped }

theorem exec_holdTimerExpiry_due {s : State} {a ms elapsed : Nat} (held : (s.peer a).held = true)
    (timer : (s.peer a).holdTimer = .running ms) (out : ms ≤ elapsed) :
    exec (.holdTimerExpiry a elapsed) s = .next ((s.elapse elapsed).modPeer a PeerRecord.opened).applyWants := by
  refine congrArg Host.Outcome.next (if_pos ?_)
  rw [s.elapse_peer]
  exact ⟨held, (Timer.countDown_due _ _).mpr ⟨ms, timer, out⟩⟩

/-- R113: a retry wait that has ended. -/
def Message.requeued (m : Message) : Message := { m with state := .queued }

theorem State.elapse_retryDue {s : State} {i ms : Nat} {m : Message} (hm : (s.slot i).msg = some m)
    (hs : m.state = .retryWait ms) (elapsed : Nat) : ((s.elapse elapsed).slot i).retryDue = true ↔ ms ≤ elapsed := by
  rw [s.elapse_slot, Slot.countDown_eq, hm]
  simp [Slot.retryDue, hs]
  omega

/-! ### A frame of the peer at the same instant -/

/-- What the end of a burst leaves of the records: a window that it closes orders a hold, or makes a peer SILENT (R108). -/
theorem State.accessEnded_peers (s : State) (w : WindowResult) : (s.accessEnded w).peers = s.peers ∨
    (∃ a, (s.accessEnded w).peers = (s.holdPeer a).peers) ∨
    ∃ a, (s.accessEnded w).peers = (s.modPeer a PeerRecord.silenced).peers := by
  unfold State.accessEnded
  split
  · exact .inl rfl
  · split_ifs
    · exact (s.settleWindow_peers w).imp_right (.imp (fun ⟨a, _, h⟩ => ⟨a, h⟩) fun ⟨a, _, h⟩ => ⟨a, h⟩)
    · exact .inl rfl
  · exact .inl (s.applyWants_unchanged .peers (by decide))

/-- The timers of a record restarted as a frame heard under that configuration leaves them: the presence timer unless
the peer became SILENT since, and the hold timer with an H of 1 (R64, R71, R74). -/
structure PeerRecord.Restarted (config : ConfigRecord) (h : Bool) (p : PeerRecord) : Prop where
  presence : p.presence = .present → p.presenceTimer = .running config.presenceMs
  hold : h = true → p.held = true ∧ p.holdTimer = .running config.holdMs

/-- R64: what a frame says of its sender, but for the last accepted sequence. -/
theorem PeerRecord.heard_restarted (config : ConfigRecord) {f : Frame} (hk : f.kind ≠ .notice .leave) (p : PeerRecord)
    (last : Option Nat) : PeerRecord.Restarted config f.h { p.heard config f with lastAccepted := last } := by
  rw [PeerRecord.heard_eq config hk]
  exact ⟨fun _ => rfl, fun hh => by simp [hh, ConfigRecord.holdMs]⟩

/-- The end of the burst leaves the timers so: a hold order restarts the same hold, and a SILENT peer keeps its hold. -/
theorem State.accessEnded_restarted {s : State} {h : Bool} {a : Nat}
    (restarted : (s.peer a).Restarted s.station.config h) (w : WindowResult) :
    ((s.accessEnded w).peer a).Restarted s.station.config h := by
  rcases s.accessEnded_peers w with same | ⟨b, held⟩ | ⟨b, silent⟩
  · rwa [State.peer_congr same]
  · rw [State.peer_congr held]
    rcases s.peer_modPeer_cases b a _ with same | ⟨rfl, ordered⟩
    · exact same ▸ restarted
    · exact ordered ▸ ⟨restarted.presence, fun _ => ⟨rfl, rfl⟩⟩
  · rw [State.peer_congr silent]
    rcases s.peer_modPeer_cases b a _ with same | ⟨rfl, departed⟩
    · exact same ▸ restarted
    · exact departed ▸ ⟨nofun, restarted.hold⟩

/-- Whatever a frame other than a LEAVE notice does besides, its sender's timers have restarted. -/
theorem exec_endOfFrame_restarts {s : State} {rxd : Levels} {f : Frame} (hf : HearsFrame s rxd f)
    (hsource : f.source ≠ s.station.address) (hk : f.kind ≠ .notice .leave) :
    ∃ t, exec (.endOfFrame rxd) s = .next t ∧ (t.peer f.source).Restarted s.station.config f.h := by
  obtain ⟨⟨hde, hears⟩, hfound⟩ := hf
  obtain ⟨b, hb, hhears⟩ := Option.map_eq_some_iff.mp hears
  have range := State.found_source hfound
  have ended := exec_endOfFrame_of_burst hde hb rxd
  rw [State.endBurst_heard (by exact hhears), hfound] at ended
  refine ⟨_, ended, ?_⟩
  have taken : (s.occupyWindow rxd).lineEnded.takeFound (.valid f) = ((s.occupyWindow rxd).told f).route f :=
    State.takeValid_other hsource
  rw [taken]
  have config : (((s.occupyWindow rxd).told f).route f).station.config = s.station.config := by
    rw [(State.route_files _ hk).config, State.told_station]
    rfl
  rw [← config]
  refine State.accessEnded_restarted ?_ _
  obtain ⟨last, routed⟩ := ((s.occupyWindow rxd).told f).route_peer hk range
  rw [routed, config, State.told_peer _ range]
  exact PeerRecord.heard_restarted s.station.config hk _ last

/-- A burst is heard as a frame by the line, the station and who drives the line. -/
theorem HearsFrame.congr {s u : State} {rxd : Levels} {f : Frame} (hf : HearsFrame s rxd f) (line : u.line = s.line)
    (station : u.station = s.station) (de : u.de = false) : HearsFrame u rxd f := by
  obtain ⟨⟨-, hears⟩, hfound⟩ := hf
  have same : u.hears = s.hears := by
    funext b
    rw [State.hears, State.hears, station]
  exact ⟨⟨de, by rw [line, same, hears]⟩, by rw [State.found, line]; exact hfound⟩

/-- A frame under way is heard alike after the lapse of a hold (R74). -/
theorem exec_holdTimerExpiry_hears {s : State} {rxd : Levels} {f : Frame} (hf : HearsFrame s rxd f) (a : Nat) :
    ∃ u, exec (.holdTimerExpiry a 0) s = .next u ∧ HearsFrame u rxd f ∧ u.station = s.station := by
  by_cases lapses : (s.peer a).held = true ∧ ∃ ms, (s.peer a).holdTimer = .running ms ∧ ms ≤ 0
  · obtain ⟨held, ms, timer, out⟩ := lapses
    have opened := exec_holdTimerExpiry_due held timer out
    rw [s.elapse_zero] at opened
    have unchanged := (s.modPeer_unchanged a PeerRecord.opened).append (State.applyWants_unchanged _)
    have station := unchanged .station (by decide)
    refine ⟨_, opened, hf.congr (unchanged .line (by decide)) station (State.applyWants_de ?_), station⟩
    rw [State.de, State.modPeer_access]
    exact hf.1.1
  · refine ⟨s, (exec_holdTimerExpiry_early ?_).trans (by rw [s.elapse_zero]), hf, rfl⟩
    refine (Bool.eq_false_or_eq_true _).symm.imp_right fun held ms timer => ?_
    exact Nat.lt_of_not_le fun out => lapses ⟨held, ms, timer, out⟩

/-! ### The obligations -/

/-- Settles O38: the timer that has not run out, the one that has, and the one a frame has restarted. -/
theorem presenceTimeoutSilences : Obligations.PresenceTimeoutSilences := by
  unfold Obligations.PresenceTimeoutSilences
  refine ⟨fun s a elapsed => exec_presenceTimeout_early, ?_, ?_⟩
  · intro s a ms elapsed low high present timer out consistent u
    have nonzero : a ≠ 0 := by omega
    have wants := (u.makeSilent a).applyWants_unchanged
    have peer (b : Nat) : (u.makeSilent a).applyWants.peer b = (u.modPeer a PeerRecord.silenced).peer b :=
      (State.peer_congr (wants .peers (by decide)) b).trans (u.makeSilent_peer a b)
    have silences : Silences s (u.makeSilent a).applyWants a :=
      ((State.makeSilent_silences (State.elapse_consistent elapsed consistent) a).of_before (s.elapse_owed elapsed)
        (fun _ => rfl) (s.elapse_bulkOutcome elapsed _) fun i => s.elapse_slot_of_not_bulk elapsed).of_blocks rfl rfl
        (wants .outbound (by decide)) (wants .outcomes (by decide))
    refine ⟨_, exec_presenceTimeout_due present timer out,
      ((u.makeSilent_unchanged a).append wants).mono (by decide), ?_, fun b hb => ?_, silences.owed, silences.marked,
      silences.others, ?_⟩
    · rw [peer, u.peer_modPeer_self a _ nonzero high]
      rfl
    · rw [peer, u.peer_modPeer_other a b _ hb]
    · rw [State.applyWants_station]
      exact (u.makeSilent_settles a).station
  · intro s rxd f hf hsource hk hbeacon
    obtain ⟨t, ended, restarted⟩ := exec_endOfFrame_restarts hf hsource hk
    have long : 0 < s.station.config.presenceMs := by
      rw [ConfigRecord.presenceMs, ConfigRecord.beaconMs]
      omega
    refine ⟨t, ended, (exec_presenceTimeout_early ?_).trans (by rw [t.elapse_zero])⟩
    by_cases present : (t.peer f.source).presence = .present
    · exact .inr fun ms timer => (Timer.running.inj ((restarted.presence present).symm.trans timer)) ▸ long
    · exact .inl present

/-- Settles O39: a hold that lapses, a retry wait that ends, and a frame with an H of 1 before or after the lapse. -/
theorem holdAndRetryLapse : Obligations.HoldAndRetryLapse := by
  unfold Obligations.HoldAndRetryLapse
  refine ⟨?_, ?_, fun s a elapsed => exec_holdTimerExpiry_early, ?_⟩
  · intro s a ms elapsed low high held timer out u
    have nonzero : a ≠ 0 := by omega
    have wants := (u.modPeer a PeerRecord.opened).applyWants_unchanged
    have peer (b : Nat) := State.peer_congr (wants .peers (by decide)) b
    have access := (u.modPeer a PeerRecord.opened).applyWants_access
    rw [State.modPeer_access, State.lineIdle, State.modPeer_line] at access
    exact ⟨_, exec_holdTimerExpiry_due held timer out, ((u.modPeer_unchanged a _).append wants).mono (by decide),
      (peer a).trans (u.peer_modPeer_self a _ nonzero high),
      fun b hb => (peer b).trans (u.peer_modPeer_other a b _ hb), access⟩
  · intro s i ms elapsed m hm waits u
    have due : (u.slot i).retryDue = true ↔ ms ≤ elapsed := State.elapse_retryDue hm waits elapsed
    refine ⟨fun out => ?_, fun early => congrArg Host.Outcome.next (if_neg (by rw [due]; omega))⟩
    have wants := (u.modMessage i Message.requeued).applyWants_unchanged
    have slot (j : Nat) := State.slot_congr (wants .outbound (by decide)) j
    have access := (u.modMessage i Message.requeued).applyWants_access
    rw [State.modMessage_access, State.lineIdle, State.modMessage_line] at access
    refine ⟨_, congrArg Host.Outcome.next (if_pos (due.mpr out)),
      ((u.modMessage_unchanged i _).append wants).mono (by decide), ?_,
      fun j hj => (slot j).trans (u.slot_modMessage_other i j _ hj),
      fun d => (State.queue_congr (wants .outbound (by decide)) d).trans (u.queue_modMessage i d _), access⟩
    refine (slot i).trans ((u.slot_modMessage_self i _).trans ?_)
    rw [s.elapse_slot, Slot.countDown_eq, hm]
    rfl
  · intro s rxd f hf hsource hk hh hhold
    have long : 0 < s.station.config.holdMs := by
      rw [ConfigRecord.holdMs]
      omega
    constructor
    · obtain ⟨t, ended, restarted⟩ := exec_endOfFrame_restarts hf hsource hk
      obtain ⟨held, timer⟩ := restarted.hold hh
      refine ⟨t, ended, (exec_holdTimerExpiry_early (.inr fun ms running => ?_)).trans (by rw [t.elapse_zero]), held⟩
      exact (Timer.running.inj (timer.symm.trans running)) ▸ long
    · obtain ⟨u, lapsed, hears, station⟩ := exec_holdTimerExpiry_hears hf f.source
      obtain ⟨t, ended, restarted⟩ := exec_endOfFrame_restarts hears (by rwa [station]) hk
      exact ⟨u, t, lapsed, ended, (restarted.hold hh).1⟩

end Sys2Proof.Machine
end

/-! SUPPORT. The outbound store stays consistent (R83, R84, R136, R137): the changes of a message where it stands, an
allocation and a refill of the outcome queue. -/

section
namespace Sys2Proof.Machine

-- One proof at a time: a thread for each that waits for the same case split can run the checker out of memory.
set_option Elab.async false

/-- A message that is resolved is DONE. -/
theorem Message.done_of_not_live {m : Message} (h : ¬ m.Live) : ∃ r, m.state = .done r := by
  simpa [Message.Live] using h

theorem State.slot_modMessage_of {s : State} {i : Nat} {m : Message} (hm : (s.slot i).msg = some m)
    (f : Message → Message) : ((s.modMessage i f).slot i).msg = some (f m) := by
  rw [s.slot_modMessage_self, hm]
  rfl

/-! ### A message changed where it stands -/

theorem StoreConsistent.of_unchanged {changed : List Block} {s t : State} (h : StoreConsistent s)
    (k : UnchangedBut changed s t) (outbound : .outbound ∉ changed := by decide)
    (outcomes : .outcomes ∉ changed := by decide) : StoreConsistent t :=
  h.of_blocks (k .outbound outbound) (k .outcomes outcomes)

/-- A slot whose message is not QUEUED stands behind no head (R84). -/
theorem StoreConsistent.notMem_tail {s : State} (h : StoreConsistent s) {i : Nat} {m : Message}
    (hm : (s.slot i).msg = some m) (hs : m.state ≠ .queued) (d : Nat) : i ∉ (s.queue d).tail := by
  intro hi
  have queued := h.isQueued_of_mem_tail hi
  simp [State.isQueued, hm, hs] at queued

/-- A head stands behind no head (R83). -/
theorem StoreConsistent.head_notMem_tail {s : State} (h : StoreConsistent s) {d i : Nat} {rest : List Nat}
    (hq : s.queue d = i :: rest) (e : Nat) : i ∉ (s.queue e).tail := by
  have here : i ∈ s.queue d := by simp [hq]
  by_cases hne : e = d
  · have distinct := h.nodup_queue d
    rw [hq, List.nodup_cons] at distinct
    rw [hne, hq]
    exact distinct.1
  · exact fun hi => h.notMem_queue here hne (List.mem_of_mem_tail hi)

/-- R83, R84: a message not resolved may change to any other for its destination, if it is QUEUED again or behind no
head. -/
theorem StoreConsistent.restate {s : State} (h : StoreConsistent s) {i : Nat} {m : Message}
    (hm : (s.slot i).msg = some m) (hl : m.Live) (f : Message → Message) (dest : (f m).dest = m.dest)
    (live : (f m).Live) (front : ∀ d, i ∈ (s.queue d).tail → (f m).state = .queued) :
    StoreConsistent (s.modMessage i f) := by
  have after := State.slot_modMessage_of hm f
  have queue := fun d => s.queue_modMessage i d f
  have outcomes := s.modMessage_outcomes i f
  have total : (s.modMessage i f).queuedCount i = s.queuedCount i := by simp only [State.queuedCount, queue]
  have named := h
  obtain ⟨placed, slots, waits, tails, bound, full⟩ := named
  refine ⟨fun j hj => ?_, ?_, ?_, fun d hd j hj => ?_, by rwa [outcomes], by rwa [outcomes]⟩
  · by_cases hji : j = i
    · obtain ⟨hd, once, there, away⟩ := (State.slotPlaced_live hm hl).mp (hji ▸ placed j hj)
      rw [hji, State.slotPlaced_live after live, dest, total, queue, outcomes]
      exact ⟨hd, once, there, away⟩
    · rw [State.slotPlaced_congr (s.slot_modMessage_other i j f hji) (fun d => by rw [queue]) (by rw [outcomes])]
      exact placed j hj
  · simpa only [queue] using slots
  · rwa [outcomes]
  · rw [queue] at hj
    by_cases hji : j = i
    · subst hji
      simp [State.isQueued, after, front d hj]
    · rw [State.isQueued_congr (s.slot_modMessage_other i j f hji)]
      exact tails d hd j hj

/-- A message ON_LINE, in AWAIT_REPLY or in RETRY_WAIT is at the head, and may take any of those states. -/
theorem StoreConsistent.restateHead {s : State} (h : StoreConsistent s) {i : Nat} {m : Message}
    (hm : (s.slot i).msg = some m) (hl : m.Live) (hs : m.state ≠ .queued) (f : Message → Message)
    (dest : (f m).dest = m.dest) (live : (f m).Live) : StoreConsistent (s.modMessage i f) :=
  h.restate hm hl f dest live fun d hi => absurd hi (h.notMem_tail hm hs d)

/-! ### A message allocated -/

section
variable (s : State) (i tag : Nat) (m : Message)

/-- R87: the message in slot `i` and the slot at the tail of its queue. -/
def State.posted : State := (s.setSlot i ⟨tag, some m⟩).modQueue m.dest fun q => q ++ [i]

theorem State.posted_slot_self (hi : i < 48) : (s.posted i tag m).slot i = ⟨tag, some m⟩ :=
  (State.slot_modQueue _ _ _ _).trans (s.slot_setSlot_self i _ hi)

theorem State.posted_slot_other {j : Nat} (hj : j ≠ i) : (s.posted i tag m).slot j = s.slot j :=
  (State.slot_modQueue _ _ _ _).trans (s.slot_setSlot_other i j _ hj)

theorem State.posted_outcomes : (s.posted i tag m).outcomes = s.outcomes := by simp [State.posted]

theorem State.posted_queue_other {d : Nat} (hd : d ≠ m.dest) : (s.posted i tag m).queue d = s.queue d :=
  State.queue_modQueue_other _ _ _ _ hd

variable {m} (hd : m.dest ∈ destinations)
include hd

theorem State.posted_queue_self : (s.posted i tag m).queue m.dest = s.queue m.dest ++ [i] := by
  rw [mem_destinations] at hd
  exact State.queue_modQueue_self _ _ _ (by omega) hd.2

/-- R84: a slot joins the tail of its queue. -/
theorem State.posted_queue (d : Nat) :
    (s.posted i tag m).queue d = s.queue d ++ if d = m.dest then [i] else [] := by
  by_cases hne : d = m.dest
  · rw [if_pos hne, hne, s.posted_queue_self i tag hd]
  · rw [if_neg hne, s.posted_queue_other i tag m hne, List.append_nil]

theorem State.posted_count_other {j : Nat} (hj : j ≠ i) (d : Nat) :
    ((s.posted i tag m).queue d).count j = (s.queue d).count j := by
  rw [s.posted_queue i tag hd, List.count_append]
  split_ifs <;> simp [hj.symm]

/-- A slot that stood in no queue then stands in one. -/
theorem State.posted_queuedCount (free : s.queuedCount i = 0) : (s.posted i tag m).queuedCount i = 1 := by
  have away (d : Nat) : (s.queue d).count i = 0 := Nat.le_zero.mp (free ▸ s.count_le_queuedCount d i)
  have counts (d : Nat) : ((s.posted i tag m).queue d).count i = if d = m.dest then 1 else 0 := by
    rw [s.posted_queue i tag hd, List.count_append, away]
    split_ifs <;> simp
  have once : destinations.count m.dest = 1 := List.count_eq_one_of_mem destinations_nodup hd
  simp only [State.queuedCount, counts]
  rw [List.sum_map_eq_nsmul_single (f := fun d => if d = m.dest then 1 else 0) m.dest fun d hne _ => if_neg hne,
    once, if_pos rfl, one_smul]

end

/-- R83, R87: a slot that was FREE takes its place at the tail of the queue, QUEUED. -/
theorem StoreConsistent.posted {s : State} (h : StoreConsistent s) {i : Nat} (tag : Nat) {m : Message} (hi : i < 48)
    (free : (s.slot i).msg = none) (hs : m.state = .queued) (hd : m.dest ∈ destinations) :
    StoreConsistent (s.posted i tag m) := by
  have hl : m.Live := by simp [Message.Live, hs]
  have slot := s.posted_slot_self i tag m hi
  have queue := s.posted_queue i tag hd
  have outcomes := s.posted_outcomes i tag m
  obtain ⟨nowhere, away⟩ := (State.slotPlaced_free free).mp (h.placed hi)
  obtain ⟨placed, slots, waits, tails, bound, full⟩ := h
  refine ⟨fun j hj => ?_, fun d hd' j hj => ?_, by rwa [outcomes], fun d hd' j hj => ?_, by rwa [outcomes],
    by rwa [outcomes]⟩
  · by_cases hji : j = i
    · subst hji
      refine (State.slotPlaced_live (by rw [slot]) hl).mpr ⟨hd, s.posted_queuedCount j tag hd nowhere, ?_, ?_⟩
      · have none : (s.queue m.dest).count j = 0 := Nat.le_zero.mp (nowhere ▸ s.count_le_queuedCount m.dest j)
        rw [queue, if_pos rfl, List.count_append, none, List.count_singleton_self]
      · rw [outcomes, away]
    · rw [State.slotPlaced_congr (s.posted_slot_other i tag m hji) (s.posted_count_other i tag hd hji)
        (by rw [outcomes])]
      exact placed j hj
  · rw [queue] at hj
    rcases List.mem_append.mp hj with hj | hj
    · exact slots d hd' j hj
    · split_ifs at hj
      · exact List.mem_singleton.mp hj ▸ hi
      · cases hj
  · by_cases hji : j = i
    · subst hji
      simp [State.isQueued, slot, hs]
    · rw [State.isQueued_congr (s.posted_slot_other i tag m hji)]
      refine tails d hd' j ?_
      rw [queue] at hj
      cases hq : s.queue d with
      | nil =>
        rw [hq, List.nil_append] at hj
        split_ifs at hj <;> simp at hj
      | cons x rest =>
        rw [hq, List.cons_append, List.tail_cons, List.mem_append] at hj
        refine hj.resolve_right fun hj => ?_
        split_ifs at hj
        · exact hji (List.mem_singleton.mp hj)
        · cases hj

/-! ### The outcome queue refilled -/

theorem State.doneOutcome_isSome_iff (s : State) (i : Nat) :
    (s.doneOutcome i).isSome = true ↔ ∃ m, (s.slot i).msg = some m ∧ ¬ m.Live := by
  unfold State.doneOutcome
  cases (s.slot i).msg with
  | none => simp
  | some m => cases hs : m.state <;> simp [hs, Message.Live]

/-- A slot on the waiting-outcome list is DONE, and on it once (R83). -/
theorem StoreConsistent.of_mem_waiting {s : State} (h : StoreConsistent s) {i : Nat} (hi : i ∈ s.outcomes.waiting) :
    (s.doneOutcome i).isSome = true ∧ s.queuedCount i = 0 ∧ s.outcomes.waiting.count i = 1 := by
  have waits : 0 < s.outcomes.waiting.count i := List.count_pos_iff.mpr hi
  have placed : s.slotPlaced i = true := by
    obtain ⟨placed, -, named, -⟩ := h
    exact placed i (named i hi)
  cases hm : (s.slot i).msg with
  | none => exact absurd ((State.slotPlaced_free hm).mp placed).2 waits.ne'
  | some m =>
    by_cases hl : m.Live
    · obtain ⟨-, -, -, away⟩ := (State.slotPlaced_live hm hl).mp placed
      exact absurd away waits.ne'
    · obtain ⟨r, hr⟩ := Message.done_of_not_live hl
      exact ⟨(s.doneOutcome_isSome_iff i).mpr ⟨m, hm, hl⟩, (State.slotPlaced_done hm hr).mp placed⟩

theorem State.freeDone_queue (s : State) (i d : Nat) : (s.freeDone i).queue d = s.queue d := by
  unfold State.freeDone
  split_ifs <;> rfl

theorem State.freeDone_outcomes (s : State) (i : Nat) : (s.freeDone i).outcomes = s.outcomes := by
  unfold State.freeDone
  split_ifs <;> rfl

/-- R138: a DONE slot becomes FREE with its tag. -/
theorem State.freeDone_slot_self {s : State} {i : Nat} (done : (s.doneOutcome i).isSome = true) :
    (s.freeDone i).slot i = ⟨(s.slot i).tag, none⟩ := by
  obtain ⟨m, hm, -⟩ := (s.doneOutcome_isSome_iff i).mp done
  rw [State.freeDone, if_pos done, s.slot_setSlot_self _ _ (s.slot_lt i m hm)]

theorem State.freeDone_slot_other {s : State} {i j : Nat} (h : j = i → (s.doneOutcome j).isSome = false) :
    (s.freeDone i).slot j = s.slot j := by
  unfold State.freeDone
  split_ifs with done
  · refine s.slot_setSlot_other i j _ fun hji => ?_
    rw [← hji, h hji] at done
    cases done
  · rfl

theorem State.foldl_freeDone_slot (l : List Nat) (s : State) (j : Nat) : (l.foldl State.freeDone s).slot j =
    if j ∈ l ∧ (s.doneOutcome j).isSome = true then ⟨(s.slot j).tag, none⟩ else s.slot j := by
  induction l generalizing s with
  | nil => simp
  | cons i l ih =>
    rw [List.foldl_cons, ih]
    by_cases freed : j = i ∧ (s.doneOutcome j).isSome = true
    · obtain ⟨rfl, done⟩ := freed
      have slot := State.freeDone_slot_self done
      have free : ((s.freeDone j).doneOutcome j).isSome = false := by rw [State.doneOutcome, slot]; rfl
      simp [slot, free, done]
    · have slot : (s.freeDone i).slot j = s.slot j := State.freeDone_slot_other fun hji => by simpa [hji] using freed
      rw [slot, State.doneOutcome_congr slot]
      refine if_congr ⟨fun ⟨hj, done⟩ => ⟨List.mem_cons_of_mem i hj, done⟩, fun ⟨hj, done⟩ => ⟨?_, done⟩⟩ rfl rfl
      exact (List.mem_cons.mp hj).resolve_left fun hji => freed ⟨hji, done⟩

section
variable (s : State) (n : Nat)

/-- R139: the first `n` records leave the outcome queue, and waiting outcomes move into its room. -/
def State.taken : State := (s.modOutcomes fun o => { o with queue := o.queue.drop n }).refill

/-- How many records the outcome queue then takes. -/
def State.room : Nat := 16 - (s.outcomes.queue.drop n).length

theorem State.taken_queue (d : Nat) : (s.taken n).queue d = s.queue d :=
  foldl_keeps State.freeDone (fun s => s.queue d) (fun s i => s.freeDone_queue i d) _ _

theorem State.taken_outcomes : (s.taken n).outcomes =
    ⟨s.outcomes.queue.drop n ++ (s.outcomes.waiting.take (s.room n)).filterMap s.doneOutcome,
      s.outcomes.waiting.drop (s.room n)⟩ := by
  have moved : s.outcomes.waiting.drop (s.outcomes.waiting.take (s.room n)).length =
      s.outcomes.waiting.drop (s.room n) := by
    rw [List.length_take, List.drop_eq_drop_iff]
    omega
  rw [← moved]
  exact foldl_keeps State.freeDone State.outcomes State.freeDone_outcomes _ _

theorem State.taken_slot (j : Nat) : (s.taken n).slot j =
    if j ∈ s.outcomes.waiting.take (s.room n) ∧ (s.doneOutcome j).isSome = true then ⟨(s.slot j).tag, none⟩
    else s.slot j :=
  State.foldl_freeDone_slot _ _ j

end

/-- R138, R139: the slots whose outcomes move are FREE, and with slots left waiting the outcome queue is full. -/
theorem StoreConsistent.taken {s : State} (h : StoreConsistent s) (n : Nat) : StoreConsistent (s.taken n) := by
  have queue := s.taken_queue n
  have outcomes := s.taken_outcomes n
  have moved {j : Nat} (hj : j ∈ s.outcomes.waiting.take (s.room n)) := h.of_mem_waiting (List.mem_of_mem_take hj)
  have stays {j : Nat} (hj : j ∉ s.outcomes.waiting.take (s.room n)) : (s.taken n).slot j = s.slot j := by
    rw [s.taken_slot, if_neg fun ⟨there, _⟩ => hj there]
  have parts (j : Nat) : (s.outcomes.waiting.take (s.room n)).count j + (s.taken n).outcomes.waiting.count j =
      s.outcomes.waiting.count j := by
    rw [outcomes, ← List.count_append, List.take_append_drop]
  have records : ((s.outcomes.waiting.take (s.room n)).filterMap s.doneOutcome).length =
      min (s.room n) s.outcomes.waiting.length := by
    rw [List.filterMap_length_eq_length.mpr fun j hj => (moved hj).1, List.length_take]
  have length : (s.taken n).outcomes.queue.length =
      (s.outcomes.queue.drop n).length + min (s.room n) s.outcomes.waiting.length := by
    rw [outcomes, List.length_append, records]
  have drained : (s.outcomes.queue.drop n).length ≤ 16 :=
    (List.drop_sublist n _).length_le.trans h.outcomes_le
  have placed {j : Nat} (hj : j < 48) := h.placed hj
  have tails {d j : Nat} (hj : j ∈ (s.queue d).tail) := h.isQueued_of_mem_tail hj
  have inQueue {d j : Nat} (hj : j ∈ s.queue d) := h.of_mem_queue hj
  obtain ⟨-, slots, waits, -, -, -⟩ := h
  refine ⟨fun j hj => ?_, ?_, fun j hj => waits j ?_, fun d _ j hj => ?_, ?_, fun left => ?_⟩
  · have total : (s.taken n).queuedCount j = s.queuedCount j := by simp only [State.queuedCount, queue]
    by_cases hm : j ∈ s.outcomes.waiting.take (s.room n)
    · obtain ⟨done, nowhere, once⟩ := moved hm
      have slot := s.taken_slot n j
      rw [if_pos ⟨hm, done⟩] at slot
      refine (State.slotPlaced_free (by rw [slot])).mpr ⟨total.trans nowhere, ?_⟩
      have := parts j
      have : 0 < (s.outcomes.waiting.take (s.room n)).count j := List.count_pos_iff.mpr hm
      omega
    · have := parts j
      have : (s.outcomes.waiting.take (s.room n)).count j = 0 := List.count_eq_zero.mpr hm
      rw [State.slotPlaced_congr (stays hm) (fun d => by rw [queue]) (by omega)]
      exact placed hj
  · simpa only [queue] using slots
  · rw [outcomes] at hj
    exact List.mem_of_mem_drop hj
  · rw [queue] at hj
    obtain ⟨m, hm, hl, -⟩ := inQueue (List.mem_of_mem_tail hj)
    have slot : (s.taken n).slot j = s.slot j := stays fun there => by
      obtain ⟨m', hm', done⟩ := (s.doneOutcome_isSome_iff j).mp (moved there).1
      exact done (Option.some.inj (hm.symm.trans hm') ▸ hl)
    rw [State.isQueued_congr slot]
    exact tails hj
  · rw [length, State.room]
    show _ ≤ 16
    omega
  · have : (s.taken n).outcomes.waiting.length ≠ 0 := fun none => left (List.eq_nil_of_length_eq_zero none)
    rw [outcomes, List.length_drop] at this
    rw [length]
    show _ = 16
    rw [State.room] at *
    omega

end Sys2Proof.Machine
end

/-! SUPPORT. The outbound store stays consistent (R83, R84, R136, R137): one lemma per operation, and every step. -/

section
namespace Sys2Proof.Machine

-- One proof at a time: a thread for each that waits for the same case split can run the checker out of memory.
set_option Elab.async false

/-- R86: the destination of an accepted POST has a queue. -/
theorem State.postRefusal_dest {s : State} {dest cls length : Nat} (h : s.postRefusal dest cls length = none) :
    dest ∈ destinations := by
  unfold State.postRefusal at h
  split_ifs at h with named
  rw [mem_destinations]
  omega

/-- R80: the message that a handle names. -/
theorem State.named_eq_some_iff (s : State) (i tag : Nat) (m : Message) :
    s.named i tag = some m ↔ i < 48 ∧ tag ≠ 0 ∧ (s.slot i).tag = tag ∧ (s.slot i).msg = some m := by
  unfold State.named
  split_ifs with h
  · simp [h]
  · exact ⟨nofun, fun ⟨hi, ht, same, _⟩ => absurd ⟨hi, ht, same⟩ h⟩

/-- R100, R101: a picked message stands at the head of the queue served. -/
theorem State.pick_head {s : State} {d i : Nat} {m : Message} (h : s.pick = .message d i m) :
    ∃ rest, s.queue d = i :: rest := by
  unfold State.pick at h
  split at h
  · cases h
  split at h
  · cases h
  split at h
  · cases h
  next rest hq =>
  split at h
  · cases h
  obtain ⟨rfl, rfl, -⟩ := Pick.message.inj h
  exact ⟨rest, hq⟩

namespace StoreConsistent

/-! ### Settling messages -/

theorem resolve {s : State} (i : Nat) (r : MsgResult) (h : StoreConsistent s) : StoreConsistent (s.resolve i r) := by
  cases hm : (s.slot i).msg with
  | none => rwa [s.resolve_free i r hm]
  | some m =>
    by_cases hl : m.Live
    · exact State.resolve_consistent hm hl r h
    · obtain ⟨r', hr⟩ := Message.done_of_not_live hl
      rwa [s.resolve_done i r r' m hm hr]

theorem modPeer {s : State} (a : Nat) (f : PeerRecord → PeerRecord) (h : StoreConsistent s) :
    StoreConsistent (s.modPeer a f) := h.of_unchanged (s.modPeer_unchanged a f)

theorem abandonAll {s : State} (h : StoreConsistent s) : StoreConsistent s.abandonAll := by
  rw [State.abandonAll_eq]
  exact foldl_invariant _ StoreConsistent (fun _ d hs => State.markQueue_consistent hs d _) _ _
    (State.abandonWaiting_resolves h).consistent

theorem watchQueues {s : State} (h : StoreConsistent s) : StoreConsistent s.watchQueues :=
  h.of_blocks s.watchQueues_outbound s.watchQueues_outcomes

/-- The attempts of a message are no matter of its place. -/
theorem recount {s : State} {i : Nat} {m : Message} (attempts : Nat → Nat) (h : StoreConsistent s)
    (hm : (s.slot i).msg = some m) (hl : m.Live) :
    StoreConsistent (s.modMessage i fun m => { m with attempts := attempts m.attempts }) :=
  h.restate hm hl _ rfl hl fun d hi => by
    by_contra hs
    exact h.notMem_tail hm hs d hi

section
variable {s : State} {i : Nat} {m : Message} {mark : Option Mark} (h : StoreConsistent s)
  (hm : (s.slot i).msg = some m) (hs : m.state = .awaitReply mark)
include h hm hs

/-- R110: a refused message is resolved with its mark, or QUEUED again where it stands. -/
theorem requeueRefused : StoreConsistent (s.requeueRefused i mark) := by
  have hl : m.Live := by simp [Message.Live, hs]
  have restored := h.recount (· - 1) hm hl
  cases mark with
  | some k => exact restored.resolve i _
  | none => exact restored.restate (State.slot_modMessage_of hm _) hl _ rfl nofun fun _ _ => rfl

/-- R111: a message without a reply is resolved, or waits for its retry where it stands. -/
theorem settleNoReply : StoreConsistent (s.settleNoReply i m mark) := by
  unfold State.settleNoReply
  split
  · exact h.resolve i _
  · split_ifs
    · exact State.makeSilent_consistent (h.resolve i _) _
    · exact h.restateHead hm (by simp [Message.Live, hs]) (by simp [hs]) _ rfl nofun

theorem settleMessage (w : WindowResult) : StoreConsistent (s.settleMessage i m mark w) := by
  cases w with
  | ack => exact h.resolve i _
  | refuse => exact (h.modPeer m.dest _).requeueRefused (by rwa [State.modPeer_slot]) hs
  | noReply => exact h.settleNoReply hm hs

end

theorem clearInFlight {s : State} (h : StoreConsistent s) : StoreConsistent s.clearInFlight := h.of_blocks rfl rfl

theorem settleWindow {s : State} (w : WindowResult) (h : StoreConsistent s) : StoreConsistent (s.settleWindow w) := by
  unfold State.settleWindow
  split
  · split
    · exact h.clearInFlight
    · next hm =>
      split
      · next hs => exact (h.settleMessage hm hs w).clearInFlight
      · exact h.clearInFlight
  · exact h.clearInFlight

/-- R105: a message withdrawn is resolved with its mark, or QUEUED again where it stands. -/
theorem withdrawInFlight {s : State} (h : StoreConsistent s) : StoreConsistent s.withdrawInFlight := by
  unfold State.withdrawInFlight
  split
  · split
    · exact h.clearInFlight
    · next hm =>
      split
      · exact (h.resolve _ _).clearInFlight
      · next hs =>
        exact (h.restate hm (by simp [Message.Live, hs]) _ rfl (by simp [Message.Live]) fun _ _ => rfl).clearInFlight
      · exact h.clearInFlight
  · exact h.clearInFlight

/-- R106, R107: a message sent is resolved, or awaits its reply where it stands. -/
theorem completeInFlight {s : State} (h : StoreConsistent s) : StoreConsistent s.completeInFlight := by
  unfold State.completeInFlight
  split
  · split
    · exact h.clearInFlight
    · next m hm =>
      split
      · next mark hs =>
        have hl : m.Live := by simp [Message.Live, hs]
        have counted := h.recount (· + 1) hm hl
        dsimp only
        split
        · exact (counted.resolve _ _).clearInFlight
        · exact counted.restateHead (State.slot_modMessage_of hm _) hl (by simp [hs]) _ rfl (by simp [Message.Live])
      · exact h.clearInFlight
  · exact h.clearInFlight

/-! ### Windows, OFF and UNJOINED -/

theorem applyWants {s : State} (h : StoreConsistent s) : StoreConsistent s.applyWants :=
  h.of_unchanged s.applyWants_unchanged

theorem setH {s : State} (hold : Bool) (h : StoreConsistent s) : StoreConsistent (s.setH hold) :=
  h.of_unchanged (s.setH_unchanged hold)

theorem closeWindow {s : State} (w : WindowResult) (h : StoreConsistent s) : StoreConsistent (s.closeWindow w) :=
  (h.settleWindow w).of_blocks rfl rfl

theorem closeOpenWindow {s : State} (h : StoreConsistent s) : StoreConsistent s.closeOpenWindow :=
  ite_keeps h fun _ => h.closeWindow _

theorem enterOff {s : State} (h : StoreConsistent s) : StoreConsistent s.enterOff :=
  h.closeOpenWindow.of_blocks rfl rfl

theorem enterUnjoined {s : State} (h : StoreConsistent s) : StoreConsistent s.enterUnjoined :=
  enterOff (h.of_blocks rfl rfl)

theorem flagChange {s : State} (h : StoreConsistent s) : StoreConsistent s.flagChange := h.of_blocks rfl rfl

theorem lineFault {s : State} (reason : FaultReason) (h : StoreConsistent s) : StoreConsistent (s.lineFault reason) := by
  have blamed : StoreConsistent (s.closeOpenWindow.modStation fun st => { st with faultReason := reason }) :=
    h.closeOpenWindow.of_blocks rfl rfl
  unfold State.lineFault
  split
  · exact enterOff (blamed.of_blocks rfl rfl)
  · exact blamed.enterUnjoined.flagChange
  · exact blamed.abandonAll.enterUnjoined.flagChange
  · exact h
  · exact h

/-! ### Requests -/

theorem configure {s : State} (a b c d e f g m : Byte) (h : StoreConsistent s) :
    StoreConsistent (answerConfigure a b c d e f g m s).state := by
  unfold answerConfigure
  dsimp only
  split_ifs
  exacts [h, h.of_unchanged (s.configured_unchanged (configOf a b c d e f g m)), h]

theorem join {s : State} (h : StoreConsistent s) : StoreConsistent (answerJoin s).state := by
  unfold answerJoin
  split_ifs
  exacts [h, h, h.of_unchanged s.startJoin_unchanged]

theorem startLeave {s : State} (m : LeaveMode) (h : StoreConsistent s) : StoreConsistent (s.startLeave m) := by
  have leaving : StoreConsistent (s.leaving m) := h.of_unchanged (s.leaving_unchanged m)
  cases m with
  | drain => exact leaving.watchQueues.applyWants
  | abandon =>
    have dealt : s.startLeave .abandon = (s.leaving .abandon).abandonAll.watchQueues.applyWants := rfl
    exact dealt ▸ leaving.abandonAll.watchQueues.applyWants

theorem leave {s : State} (mode : Byte) (h : StoreConsistent s) : StoreConsistent (answerLeave mode s).state := by
  unfold answerLeave
  split
  · exact h
  split
  · exact h
  · unfold State.leaveJoining
    dsimp only
    split_ifs
    exacts [h.of_blocks rfl rfl, h.enterUnjoined]
  · exact h.startLeave _
  · have changed : StoreConsistent (s.modStation fun st => { st with leaveMode := some .abandon }) := h.of_blocks rfl rfl
    have abandoned := changed.abandonAll.applyWants
    unfold State.changeLeave
    exact ite_keeps h fun _ => abandoned
  · exact h.abandonAll.enterUnjoined

theorem post {s : State} (dest cls length : Byte) (payload : List Byte) (h : StoreConsistent s) :
    StoreConsistent (answerPost dest cls length payload s).state := by
  unfold answerPost
  split
  · exact h
  split
  · exact h
  next accepted =>
  split
  · exact h
  · next i hi =>
    have free : (s.slot i).msg = none := by simpa using List.find?_some hi
    have slot : i < 48 := List.mem_range.mp (List.mem_of_find?_eq_some hi)
    exact (h.posted (m := newMessage dest.toNat cls.toNat payload) _ slot free rfl
      (State.postRefusal_dest accepted)).applyWants

/-- R90: a message in flight is given a mark where it stands. -/
theorem setMark {s : State} {i : Nat} {m : Message} (k : Mark) (h : StoreConsistent s) (hm : (s.slot i).msg = some m)
    (hl : m.Live) (hs : m.state ≠ .queued) : StoreConsistent (State.setMark k s i) := by
  obtain ⟨f, marks, stays⟩ := State.setMark_stays k s i
  rw [marks]
  exact h.restateHead hm hl hs f (stays m).dest ((stays m).live hl)

theorem cancel {s : State} (slot tag : Byte) (h : StoreConsistent s) :
    StoreConsistent (answerCancel slot tag s).state := by
  have resolved := (h.resolve slot.toNat .cancelled).applyWants
  unfold answerCancel
  split
  · exact h
  · next m named =>
    obtain ⟨-, -, -, hm⟩ := (s.named_eq_some_iff _ _ m).mp named
    split
    · exact h
    · exact resolved
    · exact resolved
    · next hs => exact h.setMark _ hm (by simp [Message.Live, hs]) (by simp [hs])
    · next hs => exact h.setMark _ hm (by simp [Message.Live, hs]) (by simp [hs])

theorem fetch {s : State} (h : StoreConsistent s) : StoreConsistent (answerFetch s).state := by
  unfold answerFetch
  split
  · exact h
  · next rest _ =>
    have removed : StoreConsistent (s.modInbound fun b => { b with records := rest }) := h.of_blocks rfl rfl
    exact (removed.setH _).applyWants

theorem takeOutcomes {s : State} (max : Byte) (h : StoreConsistent s) :
    StoreConsistent (answerTakeOutcomes max s).state := by
  unfold answerTakeOutcomes
  split_ifs
  exacts [h, h, h.taken max.toNat]

theorem readCounters {s : State} (clear : Byte) (h : StoreConsistent s) :
    StoreConsistent (answerReadCounters clear s).state := by
  unfold answerReadCounters
  split_ifs
  exacts [h, h.of_blocks rfl rfl, h]

/-! ### Heard frames -/

theorem addressConflict {s : State} (h : StoreConsistent s) : StoreConsistent s.addressConflict := by
  have counted := h.of_unchanged (s.count_unchanged .addressConflicts)
  have changed (f : Station → Station) := counted.of_unchanged (State.modStation_unchanged _ f)
  unfold State.addressConflict
  dsimp only
  split_ifs
  exacts [(enterUnjoined (changed _)).flagChange, changed _]

theorem departure {s : State} (a : Nat) (h : StoreConsistent s) : StoreConsistent (s.departure a) :=
  (State.makeSilent_consistent h a).modPeer a _

/-- R15: of the messages a frame touches those for its sender alone, when it is a LEAVE notice. -/
theorem route {s : State} (f : Frame) (h : StoreConsistent s) : StoreConsistent (s.route f) := by
  by_cases hk : f.kind = .notice .leave
  · rw [State.route, hk]
    exact h.departure f.source
  · exact h.of_unchanged (s.route_files hk).unchanged

theorem takeFound {s : State} (found : Found) (h : StoreConsistent s) : StoreConsistent (s.takeFound found) := by
  cases found with
  | noFrame => exact h
  | discarded k => exact h.of_unchanged (s.count_unchanged k)
  | valid f =>
    have counted := h.of_unchanged (s.count_unchanged .framesHeard)
    unfold State.takeFound State.takeValid
    dsimp only
    split_ifs
    exacts [counted.addressConflict, (counted.modPeer _ _).route f]

theorem accessEnded {s : State} (w : WindowResult) (h : StoreConsistent s) : StoreConsistent (s.accessEnded w) := by
  unfold State.accessEnded
  split
  · exact h.of_blocks rfl rfl
  · exact ite_keeps h fun _ => (h.closeWindow w).of_blocks rfl rfl
  · exact h.applyWants

theorem endOfFrame {s : State} (rxd : Levels) (h : StoreConsistent s) : StoreConsistent (s.endOfFrame rxd) := by
  unfold State.endOfFrame
  split
  · exact h
  · have ended : StoreConsistent (s.occupyWindow rxd).lineEnded := h.of_blocks rfl rfl
    unfold State.endBurst
    split_ifs
    exacts [(ended.takeFound _).accessEnded _, ended.accessEnded _]

/-! ### Own frames -/

/-- R101, R102: the message taken stands at the head of its queue. -/
theorem takeMessage {s : State} {d i : Nat} {m : Message} (h : StoreConsistent s) (picked : s.pick = .message d i m) :
    StoreConsistent (s.takeMessage d i m) := by
  obtain ⟨hm, hs⟩ := State.pick_message picked
  obtain ⟨rest, hq⟩ := State.pick_head picked
  have advanced : StoreConsistent (s.advanceTx m) := ite_keeps h fun _ => h.modPeer m.dest _
  have same : (s.advanceTx m).outbound = s.outbound := by
    unfold State.advanceTx
    split_ifs
    exacts [s.modPeer_outbound _ _, rfl]
  have slot := State.slot_congr same i
  have taken := advanced.restate (m := m) (by rw [slot, hm]) (by simp [Message.Live, hs])
    (fun _ => { s.sequenced m with state := .onLine none }) (by unfold State.sequenced; split_ifs <;> rfl) nofun
    fun e hi => absurd (State.queue_congr same e ▸ hi) (h.head_notMem_tail hq e)
  rw [State.modMessage, slot, hm] at taken
  exact taken.of_blocks rfl rfl

theorem win {s : State} (h : StoreConsistent s) : StoreConsistent s.win := by
  unfold State.win
  split
  · exact h.of_blocks rfl rfl
  · next picked => exact (h.takeMessage picked).of_blocks rfl rfl
  · exact applyWants (h.of_blocks rfl rfl)

theorem noticeCompleted {s : State} (kind : FrameKind) (h : StoreConsistent s) :
    StoreConsistent (s.noticeCompleted kind) := by
  unfold State.noticeCompleted
  split
  · split_ifs
    exacts [h.enterUnjoined.flagChange, h.of_blocks rfl rfl, h]
  · exact ite_keeps h fun _ => h.enterUnjoined.flagChange
  · exact h

theorem completeFrame {s : State} (l : Line) (f : Frame) (h : StoreConsistent s) :
    StoreConsistent (s.completeFrame l f) := by
  have sent : StoreConsistent
      ((((s.endDrive l).modAccess fun a => { a with n := 0 }).count .framesSent).frameSent f.kind f.h) :=
    h.of_blocks rfl rfl
  have completed := sent.completeInFlight.noticeCompleted f.kind
  unfold State.completeFrame State.afterContended
  dsimp only
  split_ifs
  exacts [completed, completed.of_blocks rfl rfl, completed.of_blocks rfl rfl]

theorem collide {s : State} (l : Line) (h : StoreConsistent s) : StoreConsistent (s.collide l) := by
  have deferred : StoreConsistent (((s.endDrive l).modAccess fun a => { a with state := .defer }).count .collisions) :=
    h.of_blocks rfl rfl
  have counted (n : Nat) := deferred.withdrawInFlight.of_unchanged (State.modAccess_unchanged _ fun a => { a with n := n })
  unfold State.collide
  dsimp only
  split_ifs
  exacts [(counted _).lineFault _, (counted _).enterUnjoined.flagChange, counted _]

/-! ### Timers -/

theorem beaconOut {s : State} (h : StoreConsistent s) : StoreConsistent s.beaconOut := by
  refine ite_keeps h fun _ => ?_
  dsimp only
  split_ifs
  exacts [applyWants (h.of_blocks rfl rfl), h.of_blocks rfl rfl]

theorem presenceOut {s : State} (peer : Nat) (h : StoreConsistent s) : StoreConsistent (s.presenceOut peer) :=
  ite_keeps h fun _ => (State.makeSilent_consistent h peer).applyWants

/-- R113: the message is QUEUED again where it stands. -/
theorem retryOut {s : State} (slot : Nat) (h : StoreConsistent s) : StoreConsistent (s.retryOut slot) := by
  refine ite_keeps h fun due => applyWants ?_
  unfold Slot.retryDue at due
  cases hm : (s.slot slot).msg with
  | none => simp [hm] at due
  | some m =>
    have waits : m.state = .retryWait 0 := by simpa [hm] using due
    exact h.restate hm (by simp [Message.Live, waits]) _ rfl nofun fun _ _ => rfl

end StoreConsistent

/-! ### Every step -/

theorem operationsKeep_storeConsistent : OperationsKeep StoreConsistent where
  surroundings same h := h.of_unchanged same
  elapse ms h := State.elapse_consistent ms h
  pinReset _ _ _ := State.reset_storeConsistent.of_blocks rfl rfl
  restart _ _ _ := State.reset_storeConsistent.of_blocks rfl rfl
  status h := h.of_blocks rfl rfl
  configure _ _ _ _ _ _ _ _ h := h.configure _ _ _ _ _ _ _ _
  join h := h.join
  leave mode h := h.leave mode
  post _ _ _ _ h := h.post _ _ _ _
  cancel _ _ h := h.cancel _ _
  fetch h := h.fetch
  takeOutcomes max h := h.takeOutcomes max
  readCounters clear h := h.readCounters clear
  beginActivity rxd h := h.of_unchanged (State.beginActivity_unchanged _ rxd)
  endOfFrame rxd _ h := h.endOfFrame rxd
  completeGap _ h := h.of_blocks rfl rfl
  reportIdle _ h := h.of_blocks rfl rfl
  win _ h := h.win
  completeFrame _ _ h := h.completeFrame _ _
  collide _ _ h := h.collide _
  driveReply _ _ h := h.of_blocks rfl rfl
  completeReply _ _ h := h.of_blocks rfl rfl
  abandonReply _ _ h := h.of_blocks rfl rfl
  closeUnanswered _ h := (h.closeWindow _).of_blocks rfl rfl
  lineFault reason _ _ h := h.lineFault reason
  recover {s} _ h := by
    have active : StoreConsistent (s.placeNotice .join).enterActive := h.of_blocks rfl rfl
    exact active.of_unchanged (State.leaveOff_unchanged _)
  listenOut h := ite_keeps h fun _ => .applyWants (h.of_blocks rfl rfl)
  beaconOut h := h.beaconOut
  renewalOut h := ite_keeps h fun _ => .applyWants (h.of_blocks rfl rfl)
  presenceOut peer h := h.presenceOut peer
  holdOut peer h := ite_keeps h fun _ => (h.modPeer peer _).applyWants
  retryOut slot h := h.retryOut slot

/-- Settles O56: a message changes where it stands, joins the tail of its queue or leaves it for its outcome, and the
outcome queue takes what waits into its room. -/
theorem stepKeepsStoreConsistent : Obligations.StepKeepsStoreConsistent := by
  unfold Obligations.StepKeepsStoreConsistent
  exact fun _ _ h ht => operationsKeep_storeConsistent.step h ht

end Sys2Proof.Machine
end

/-! SUPPORT. What is in flight (R82, R97): which slots are ON_LINE or AWAIT_REPLY, in which access state, and how each
operation on messages changes it. -/

section
namespace Sys2Proof.Machine

-- One proof at a time: a thread for each that waits for the same case split can run the checker out of memory.
set_option Elab.async false

/-! ### The flight of a message -/

/-- The access controller's state for a message in this state: SENDING while ON_LINE (R102), AWAIT_REPLY (R107). -/
def SlotState.flight : SlotState → Option AccessState
  | .onLine _ => some .sending
  | .awaitReply _ => some .awaitReply
  | _ => none

/-- A message in flight: with which access state, and its class. -/
def Message.flight (m : Message) : Option (AccessState × MsgClass) := m.state.flight.map fun a => (a, m.cls)

def Slot.flight (x : Slot) : Option (AccessState × MsgClass) := x.msg.bind Message.flight

/-- What of slot `i` is in flight. -/
def State.flight (s : State) (i : Nat) : Option (AccessState × MsgClass) := (s.slot i).flight

theorem State.flight_of_slot {s : State} {i : Nat} {m : Message} (hm : (s.slot i).msg = some m) :
    s.flight i = m.flight := by
  rw [State.flight, Slot.flight, hm]
  rfl

theorem State.flight_free {s : State} {i : Nat} (h : (s.slot i).msg = none) : s.flight i = none := by
  rw [State.flight, Slot.flight, h]
  rfl

theorem State.flight_congr {s t : State} (h : t.outbound = s.outbound) : t.flight = s.flight :=
  funext fun i => congrArg Slot.flight (State.slot_congr h i)

theorem Message.flight_sending {m : Message} {c : MsgClass} (h : m.flight = some (.sending, c)) :
    (∃ mark, m.state = .onLine mark) ∧ c = m.cls := by
  obtain ⟨dest, cls, payload, attempts, seq, state⟩ := m
  cases state <;> simp_all [Message.flight, SlotState.flight]

theorem Message.flight_awaitReply {m : Message} {c : MsgClass} (h : m.flight = some (.awaitReply, c)) :
    (∃ mark, m.state = .awaitReply mark) ∧ c = m.cls := by
  obtain ⟨dest, cls, payload, attempts, seq, state⟩ := m
  cases state <;> simp_all [Message.flight, SlotState.flight]

/-- A message is in flight in SENDING and AWAIT_REPLY only. -/
theorem Message.flight_state {m : Message} {a : AccessState} {c : MsgClass} (h : m.flight = some (a, c)) :
    a = .sending ∨ a = .awaitReply := by
  obtain ⟨dest, cls, payload, attempts, seq, state⟩ := m
  cases state <;> simp_all [Message.flight, SlotState.flight]

theorem State.exists_of_flight {s : State} {i : Nat} {x : AccessState × MsgClass} (h : s.flight i = some x) :
    ∃ m, (s.slot i).msg = some m ∧ m.flight = some x :=
  Option.bind_eq_some_iff.mp h

/-! ### The flights after an operation on messages -/

theorem State.setSlot_flight (s : State) {i : Nat} (hi : i < 48) (x : Slot) :
    (s.setSlot i x).flight = Function.update s.flight i x.flight := by
  funext j
  by_cases hji : j = i
  · subst hji
    rw [Function.update_self, State.flight, s.slot_setSlot_self j x hi]
  · rw [Function.update_of_ne hji, State.flight, s.slot_setSlot_other i j x hji]
    rfl

theorem State.modMessage_flight {s : State} {i : Nat} {m : Message} (hm : (s.slot i).msg = some m)
    (f : Message → Message) : (s.modMessage i f).flight = Function.update s.flight i (f m).flight := by
  rw [State.modMessage, hm]
  exact s.setSlot_flight (s.slot_lt i m hm) _

/-- A change that leaves the message where it is leaves what is in flight. -/
theorem State.modMessage_flight_same {s : State} {i : Nat} {m : Message} (hm : (s.slot i).msg = some m)
    {f : Message → Message} (same : (f m).flight = m.flight) : (s.modMessage i f).flight = s.flight := by
  rw [State.modMessage_flight hm, same, ← State.flight_of_slot hm, Function.update_eq_self]

/-- A resolved message is not in flight (R92). -/
theorem State.resolve_flight (s : State) (i : Nat) (r : MsgResult) :
    (s.resolve i r).flight = Function.update s.flight i none := by
  funext j
  by_cases hji : j = i
  · subst hji
    rw [Function.update_self]
    cases hm : ((s.resolve j r).slot j).msg with
    | none => exact State.flight_free hm
    | some m =>
      obtain ⟨r', hr⟩ := Message.done_of_not_live (State.resolve_self_not_live hm)
      rw [State.flight_of_slot hm, Message.flight, hr]
      rfl
  · rw [Function.update_of_ne hji, State.flight, s.resolve_slot_other i r hji]
    rfl

theorem State.resolve_flight_same {s : State} {i : Nat} (h : s.flight i = none) (r : MsgResult) :
    (s.resolve i r).flight = s.flight := by
  rw [s.resolve_flight, ← h, Function.update_eq_self]

/-- A resolution of many leaves what is in flight (R93). -/
theorem State.resolveWaiting_flight (r : MsgResult) (s : State) (i : Nat) :
    (State.resolveWaiting r s i).flight = s.flight := by
  unfold State.resolveWaiting
  split
  · rfl
  · next m hm =>
    have waits (h : m.state.flight = none) : (s.resolve i r).flight = s.flight :=
      State.resolve_flight_same (by rw [State.flight_of_slot hm, Message.flight, h]; rfl) r
    split
    · next hs => exact waits (by rw [hs]; rfl)
    · next hs => exact waits (by rw [hs]; rfl)
    · rfl

/-- A mark leaves a message where it is (R90). -/
theorem State.setMark_flight (k : Mark) (s : State) (i : Nat) : (State.setMark k s i).flight = s.flight := by
  funext j
  by_cases hji : j = i
  · subst hji
    rw [State.flight, State.flight, State.setMark_slot_self]
    obtain ⟨tag, _ | ⟨dest, cls, payload, attempts, seq, state⟩⟩ := s.slot j
    · rfl
    · cases state <;> rfl
  · rw [State.flight, State.flight, State.setMark_slot_other k s i hji]

theorem State.resolveQueue_flight (s : State) (d : Nat) (r : MsgResult) : (s.resolveQueue d r).flight = s.flight :=
  foldl_keeps _ State.flight (State.resolveWaiting_flight r) _ s

theorem State.markQueue_flight (s : State) (d : Nat) (k : Mark) : (s.markQueue d k).flight = s.flight :=
  foldl_keeps _ State.flight (State.setMark_flight k) _ s

theorem State.abandonAll_flight (s : State) : s.abandonAll.flight = s.flight := by
  rw [State.abandonAll_eq, foldl_keeps _ State.flight fun s d => s.markQueue_flight d _]
  exact foldl_keeps _ State.flight (fun s d => s.resolveQueue_flight d _) _ s

theorem State.modPeer_flight (s : State) (a : Nat) (f : PeerRecord → PeerRecord) : (s.modPeer a f).flight = s.flight :=
  State.flight_congr (s.modPeer_outbound a f)

theorem State.makeSilent_flight (s : State) (a : Nat) : (s.makeSilent a).flight = s.flight := by
  rw [State.makeSilent_eq, State.markQueue_flight, State.silenceWaiting, State.resolveQueue_flight,
    State.modPeer_flight]

theorem State.elapse_flight (s : State) (ms : Nat) : (s.elapse ms).flight = s.flight := by
  funext i
  rw [State.flight, State.flight, s.elapse_slot, Slot.countDown_eq]
  obtain ⟨tag, _ | ⟨dest, cls, payload, attempts, seq, state⟩⟩ := s.slot i
  · rfl
  · cases state <;> rfl

theorem State.posted_settles (s : State) (i tag : Nat) (m : Message) : Settles s (s.posted i tag m) :=
  (s.setSlot_settles i _).trans (State.modQueue_settles _ _ _)

theorem State.posted_engine (s : State) (i tag : Nat) (m : Message) : (s.posted i tag m).engine = s.engine := by
  simp [State.posted]

/-- A message posted is QUEUED, in a slot that was FREE (R87). -/
theorem State.posted_flight {s : State} {i tag : Nat} {m : Message} (hi : i < 48) (free : (s.slot i).msg = none)
    (hs : m.state = .queued) : (s.posted i tag m).flight = s.flight := by
  have placed : (s.posted i tag m).flight = (s.setSlot i ⟨tag, some m⟩).flight :=
    funext fun j => congrArg Slot.flight (State.slot_modQueue _ _ _ _)
  have new : Slot.flight ⟨tag, some m⟩ = none := by
    show m.flight = none
    rw [Message.flight, hs]
    rfl
  rw [placed, s.setSlot_flight hi, new, ← State.flight_free free, Function.update_eq_self]

/-- A DONE slot that becomes FREE was not in flight (R138). -/
theorem State.taken_flight (s : State) (n : Nat) : (s.taken n).flight = s.flight := by
  funext j
  rw [State.flight, State.flight, s.taken_slot]
  split_ifs with done
  · obtain ⟨m, hm, hl⟩ := (s.doneOutcome_isSome_iff j).mp done.2
    obtain ⟨r, hr⟩ := Message.done_of_not_live hl
    rw [Slot.flight, Slot.flight, hm]
    show none = m.flight
    rw [Message.flight, hr]
    rfl
  · rfl

/-- Table 6-2: whatever closes the window, the message that awaited a reply is in flight no more. -/
theorem State.settleMessage_flight {s : State} {i : Nat} {m : Message} {mark : Option Mark}
    (hm : (s.slot i).msg = some m) (w : WindowResult) :
    (s.settleMessage i m mark w).flight = Function.update s.flight i none := by
  cases w with
  | ack => exact s.resolve_flight i _
  | refuse =>
    have held : ((s.holdPeer m.dest).slot i).msg = some m := by rwa [State.holdPeer, State.modPeer_slot]
    have same : (s.holdPeer m.dest).flight = s.flight := s.modPeer_flight _ _
    have restored : ((s.holdPeer m.dest).modMessage i fun m => { m with attempts := m.attempts - 1 }).flight =
        s.flight := (State.modMessage_flight_same held rfl).trans same
    cases mark with
    | some k => exact (State.resolve_flight _ i _).trans (by rw [restored])
    | none => exact (State.modMessage_flight (State.slot_modMessage_of held _) _).trans (by rw [restored]; rfl)
  | noReply =>
    show (s.settleNoReply i m mark).flight = _
    unfold State.settleNoReply
    split
    · exact s.resolve_flight i _
    · split_ifs
      · rw [State.makeSilent_flight, s.resolve_flight]
      · exact State.modMessage_flight hm _

/-! ### What the access controller carries -/

/-- R97: the item is what the access controller drives, or awaits a reply for. -/
def State.Carries (s : State) : InFlight → Prop
  | .none => s.access.state ≠ .sending ∧ s.access.state ≠ .awaitReply
  | .notice r => s.access.state = .sending ∧ s.access.frame.map Frame.kind = some (.notice r)
  | .message i => ∃ c, s.flight i = some (s.access.state, c) ∧
      (s.access.state = .sending → s.access.frame.map Frame.kind = some c.frameKind) ∧
      (s.access.state = .awaitReply → c = .acked)

theorem State.driveMatches_iff (s : State) : s.driveMatches = true ↔ s.Carries s.engine.inFlight := by
  unfold State.driveMatches State.Carries
  cases s.engine.inFlight with
  | none => simp
  | notice r => simp
  | message i =>
    dsimp only
    cases hm : (s.slot i).msg with
    | none => simp [State.flight_free hm]
    | some m =>
      have hi : i < Config.slots := s.slot_lt i m hm
      rw [State.flight_of_slot hm]
      cases hs : m.state with
      | onLine mark | awaitReply mark =>
        cases ha : s.access.state <;> simp [Message.flight, SlotState.flight, hs, hi]
      | _ => simp [Message.flight, SlotState.flight, hs]

theorem State.onlyInFlight_iff (s : State) (i : Nat) :
    s.onlyInFlight i = true ↔ (s.flight i ≠ none → s.engine.inFlight = .message i) := by
  unfold State.onlyInFlight
  cases hm : (s.slot i).msg with
  | none => simp [State.flight_free hm]
  | some m =>
    rw [State.flight_of_slot hm]
    cases hs : m.state <;> simp [Message.flight, hs, SlotState.flight]

end Sys2Proof.Machine
end

/-! SUPPORT. What is in flight, the slots and the access controller agree (R21, R82, R97): where nothing is in flight,
how the item in flight ends, and one lemma per operation. -/

section
namespace Sys2Proof.Machine

-- One proof at a time: a thread for each that waits for the same case split can run the checker out of memory.
set_option Elab.async false

/-! ### In flight, or not -/

/-- R82, R97: the access controller carries the item in flight, and no other slot is ON_LINE or AWAIT_REPLY. -/
structure State.FlightMatches (s : State) : Prop where
  carried : s.Carries s.engine.inFlight
  only : ∀ i, s.flight i ≠ none → s.engine.inFlight = .message i

/-- Nothing is in flight. -/
structure State.Landed (s : State) : Prop where
  inFlight : s.engine.inFlight = .none
  flight : s.flight = fun _ => none

/-- An access state out of OFF in which nothing is in flight. -/
abbrev AccessState.Spare (a : AccessState) : Prop := a ≠ .off ∧ a ≠ .sending ∧ a ≠ .awaitReply

/-- A station state out of UNJOINED and LINE_FAULT. -/
abbrev StationState.Joined (a : StationState) : Prop := a ≠ .unjoined ∧ a ≠ .lineFault

theorem inFlightConsistent_iff (s : State) :
    InFlightConsistent s ↔ AccessFollowsStation s ∧ s.FlightMatches := by
  have only : (∀ i < Config.slots, s.onlyInFlight i = true) ↔
      ∀ i, s.flight i ≠ none → s.engine.inFlight = .message i := by
    simp only [State.onlyInFlight_iff]
    refine ⟨fun h i hi => h i ?_ hi, fun h i _ => h i⟩
    obtain ⟨x, hx⟩ := Option.ne_none_iff_exists'.mp hi
    obtain ⟨m, hm, -⟩ := State.exists_of_flight hx
    exact s.slot_lt i m hm
  rw [InFlightConsistent, State.driveMatches_iff, only]
  exact and_congr_right fun _ => ⟨fun ⟨h, k⟩ => ⟨h, k⟩, fun ⟨h, k⟩ => ⟨h, k⟩⟩

theorem State.Landed.congr {s t : State} (h : s.Landed) (inFlight : t.engine.inFlight = s.engine.inFlight)
    (flight : t.flight = s.flight) : t.Landed := ⟨inFlight.trans h.inFlight, flight.trans h.flight⟩

theorem State.FlightMatches.congr {s t : State} (h : s.FlightMatches) (state : t.access.state = s.access.state)
    (frame : t.access.frame = s.access.frame) (inFlight : t.engine.inFlight = s.engine.inFlight)
    (flight : t.flight = s.flight) : t.FlightMatches := by
  have carries : t.Carries = s.Carries := by
    funext x
    cases x <;> simp only [State.Carries, state, frame, flight]
  refine ⟨?_, fun i => ?_⟩
  · rw [carries, inFlight]
    exact h.carried
  · rw [inFlight, flight]
    exact h.only i

/-- Out of SENDING and AWAIT_REPLY nothing is in flight (R97). -/
theorem State.FlightMatches.landed {s : State} (h : s.FlightMatches) (sending : s.access.state ≠ .sending)
    (awaiting : s.access.state ≠ .awaitReply) : s.Landed := by
  have carried := h.carried
  have none : s.engine.inFlight = .none := by
    cases hi : s.engine.inFlight with
    | none => rfl
    | notice r =>
      rw [hi] at carried
      exact absurd carried.1 sending
    | message i =>
      rw [hi] at carried
      obtain ⟨c, hc, -⟩ := carried
      obtain ⟨m, -, hm⟩ := State.exists_of_flight hc
      exact (m.flight_state hm).elim (absurd · sending) (absurd · awaiting)
  refine ⟨none, funext fun i => ?_⟩
  by_contra hi
  exact nomatch none.symm.trans (h.only i hi)

theorem State.Landed.matches {s : State} (h : s.Landed) (sending : s.access.state ≠ .sending)
    (awaiting : s.access.state ≠ .awaitReply) : s.FlightMatches := by
  refine ⟨?_, fun i hi => absurd (congrFun h.flight i) hi⟩
  rw [h.inFlight]
  exact ⟨sending, awaiting⟩

/-- One message in flight, as the access controller has it (R97). -/
theorem State.FlightMatches.of_message {s : State} {i : Nat} {c : MsgClass} (inFlight : s.engine.inFlight = .message i)
    (flight : s.flight = Function.update (fun _ => none) i (some (s.access.state, c)))
    (sending : s.access.state = .sending → s.access.frame.map Frame.kind = some c.frameKind)
    (awaiting : s.access.state = .awaitReply → c = .acked) : s.FlightMatches := by
  refine ⟨?_, fun j hj => ?_⟩
  · rw [inFlight]
    exact ⟨c, by rw [flight, Function.update_self], sending, awaiting⟩
  · by_cases hji : j = i
    · rw [inFlight, hji]
    · rw [flight, Function.update_of_ne hji] at hj
      exact absurd rfl hj

/-- With the item in flight gone from its slot, nothing is in flight. -/
theorem State.update_flight_of_only {s : State} {i : Nat}
    (only : ∀ j, s.flight j ≠ none → s.engine.inFlight = .message j)
    (hi : s.engine.inFlight = .message i) : Function.update s.flight i none = fun _ => none := by
  funext j
  by_cases hji : j = i
  · rw [hji, Function.update_self]
  · rw [Function.update_of_ne hji]
    by_contra hj
    exact hji (InFlight.message.inj ((only j hj).symm.trans hi))

/-! ### The item in flight ends -/

theorem State.settleWindow_of_awaits {s : State} {i : Nat} {m : Message} {mark : Option Mark}
    (h : AwaitsReply s i m mark) (w : WindowResult) :
    s.settleWindow w = (s.settleMessage i m mark w).clearInFlight := by
  simp only [State.settleWindow, h.inFlight, h.slot, h.message]

/-- In AWAIT_REPLY the message in flight awaits its reply. -/
theorem State.FlightMatches.awaits {s : State} (h : s.FlightMatches) (awaiting : s.access.state = .awaitReply) :
    ∃ i m mark, AwaitsReply s i m mark := by
  have carried := h.carried
  cases hi : s.engine.inFlight with
  | none =>
    rw [hi] at carried
    exact absurd awaiting carried.2
  | notice r =>
    rw [hi] at carried
    exact nomatch awaiting.symm.trans carried.1
  | message i =>
    rw [hi] at carried
    obtain ⟨c, hc, -⟩ := carried
    obtain ⟨m, hm, hf⟩ := State.exists_of_flight hc
    rw [awaiting] at hf
    obtain ⟨⟨mark, hs⟩, -⟩ := m.flight_awaitReply hf
    exact ⟨i, m, mark, awaiting, hi, hm, hs⟩

/-- R108: a closed window leaves nothing in flight. -/
theorem State.FlightMatches.settleWindow {s : State} (h : s.FlightMatches) (awaiting : s.access.state = .awaitReply)
    (w : WindowResult) : (s.settleWindow w).Landed := by
  obtain ⟨i, m, mark, awaits⟩ := h.awaits awaiting
  refine ⟨s.settleWindow_inFlight w, ?_⟩
  rw [State.settleWindow_of_awaits awaits]
  exact (State.settleMessage_flight awaits.slot w).trans (State.update_flight_of_only h.only awaits.inFlight)

/-- What closes no window leaves nothing in flight where nothing was. -/
theorem State.Landed.settleWindow {s : State} (h : s.Landed) (w : WindowResult) : (s.settleWindow w).Landed := by
  rw [State.settleWindow, h.inFlight]
  exact ⟨rfl, h.flight⟩

/-- The frame of the item in flight, of this kind, is on the line (R102). -/
structure State.SendsItem (s : State) (kind : FrameKind) : Prop where
  only : ∀ i, s.flight i ≠ none → s.engine.inFlight = .message i
  item : (∃ r, s.engine.inFlight = .notice r ∧ kind = .notice r) ∨
    ∃ i m mark, s.engine.inFlight = .message i ∧ (s.slot i).msg = some m ∧ m.state = .onLine mark ∧
      kind = m.cls.frameKind

theorem State.FlightMatches.sendsItem {s : State} {f : Frame} (h : s.FlightMatches) (hf : Drives s .sending f) :
    s.SendsItem f.kind := by
  obtain ⟨sending, frame⟩ := hf
  refine ⟨h.only, ?_⟩
  have carried := h.carried
  cases hi : s.engine.inFlight with
  | none =>
    rw [hi] at carried
    exact absurd sending carried.1
  | notice r =>
    rw [hi] at carried
    obtain ⟨-, kind⟩ := carried
    rw [frame] at kind
    exact .inl ⟨r, rfl, Option.some.inj kind⟩
  | message i =>
    rw [hi] at carried
    obtain ⟨c, hc, kind, -⟩ := carried
    obtain ⟨m, hm, hfl⟩ := State.exists_of_flight hc
    rw [sending] at hfl
    obtain ⟨⟨mark, hs⟩, rfl⟩ := m.flight_sending hfl
    have kind := kind sending
    rw [frame] at kind
    exact .inr ⟨i, m, mark, rfl, hm, hs, Option.some.inj kind⟩

theorem State.SendsItem.congr {s t : State} {kind : FrameKind} (h : s.SendsItem kind)
    (outbound : t.outbound = s.outbound) (engine : t.engine = s.engine) : t.SendsItem kind := by
  obtain ⟨only, item⟩ := h
  constructor
  · rwa [engine, State.flight_congr outbound]
  · simpa only [engine, State.slot_congr outbound] using item

/-- R105: a withdrawn item is in flight no more. -/
theorem State.SendsItem.withdrawInFlight {s : State} {kind : FrameKind} (h : s.SendsItem kind) :
    s.withdrawInFlight.Landed := by
  refine ⟨s.withdrawInFlight_inFlight, ?_⟩
  rcases h.item with ⟨r, hi, -⟩ | ⟨i, m, mark, hi, hm, hs, -⟩
  · funext j
    rw [State.withdrawInFlight, hi]
    by_contra hj
    exact nomatch hi.symm.trans (h.only j hj)
  · rw [← State.update_flight_of_only h.only hi]
    simp only [State.withdrawInFlight, hi, hm, hs]
    cases mark with
    | none => exact State.modMessage_flight hm _
    | some k => exact s.resolve_flight i _

/-- R106, R107: an item sent is in flight no more, or it was a DATA frame and its message awaits the reply. -/
theorem State.SendsItem.completeInFlight {s : State} {kind : FrameKind} (h : s.SendsItem kind) :
    (kind ≠ .data ∧ s.completeInFlight.Landed) ∨
      (kind = .data ∧ ∃ i, s.completeInFlight.engine.inFlight = .message i ∧
        s.completeInFlight.flight = Function.update (fun _ => none) i (some (.awaitReply, .acked))) := by
  rcases h.item with ⟨r, hi, rfl⟩ | ⟨i, m, mark, hi, hm, hs, rfl⟩
  · refine .inl ⟨nofun, ?_⟩
    rw [State.completeInFlight, hi]
    refine ⟨rfl, funext fun j => ?_⟩
    by_contra hj
    exact nomatch hi.symm.trans (h.only j hj)
  · have alone := State.update_flight_of_only h.only hi
    have counted := State.modMessage_flight_same (f := fun m => { m with attempts := m.attempts + 1 }) hm rfl
    cases hc : m.cls with
    | datagram =>
      have completed : s.completeInFlight =
          ((s.modMessage i fun m => { m with attempts := m.attempts + 1 }).resolve i .sent).clearInFlight := by
        simp only [State.completeInFlight, hi, hm, hs, hc]
      refine .inl ⟨nofun, completed ▸ ⟨rfl, ?_⟩⟩
      exact (State.resolve_flight _ i _).trans (by rw [counted, alone])
    | acked =>
      have completed : s.completeInFlight = (s.modMessage i fun m => { m with attempts := m.attempts + 1 }).modMessage i
          fun m => { m with state := .awaitReply mark } := by
        simp only [State.completeInFlight, hi, hm, hs, hc]
      rw [completed]
      refine .inr ⟨rfl, i, by simpa using hi, ?_⟩
      refine (State.modMessage_flight (State.slot_modMessage_of hm _) _).trans ?_
      rw [counted, ← alone, Function.update_idem]
      simp [Message.flight, SlotState.flight, hc]

end Sys2Proof.Machine
end

/-! SUPPORT. What is in flight, the slots and the access controller agree (R21, R82, R97): one lemma per operation, and
every step. -/

section
namespace Sys2Proof.Machine

-- One proof at a time: a thread for each that waits for the same case split can run the checker out of memory.
set_option Elab.async false

/-- Where OFF, or the close of an open window on the way to it, leaves nothing in flight (R21). -/
def State.CanLand (s : State) : Prop := s.Landed ∨ s.FlightMatches ∧ s.access.state ≠ .sending

theorem State.CanLand.congr {s t : State} (h : s.CanLand) (state : t.access.state = s.access.state)
    (frame : t.access.frame = s.access.frame) (inFlight : t.engine.inFlight = s.engine.inFlight)
    (flight : t.flight = s.flight) : t.CanLand :=
  h.imp (·.congr inFlight flight) fun ⟨h, sending⟩ => ⟨h.congr state frame inFlight flight, state ▸ sending⟩

theorem State.CanLand.closeOpenWindow {s : State} (h : s.CanLand) : s.closeOpenWindow.Landed := by
  unfold State.closeOpenWindow
  split_ifs with awaiting
  · rcases h with h | ⟨h, -⟩
    · exact (h.settleWindow _).congr rfl rfl
    · exact (h.settleWindow awaiting _).congr rfl rfl
  · rcases h with h | ⟨h, sending⟩
    exacts [h, h.landed sending awaiting]

/-- A sequence changes the class of no message (R103). -/
theorem State.sequenced_cls (s : State) (m : Message) : (s.sequenced m).cls = m.cls := by
  unfold State.sequenced
  split_ifs <;> rfl

/-- R75, R103: the next tx sequence advances in the peer record alone. -/
theorem State.advanceTx_unchanged (s : State) (m : Message) : UnchangedBut [.peers] s (s.advanceTx m) := by
  unfold State.advanceTx
  split_ifs
  exacts [s.modPeer_unchanged _ _, .refl _ s]

namespace InFlightConsistent

theorem follows {s : State} (h : InFlightConsistent s) : AccessFollowsStation s := h.1

theorem flight {s : State} (h : InFlightConsistent s) : s.FlightMatches := ((inFlightConsistent_iff s).mp h).2

/-- With the access controller out of OFF the station is joined (R21). -/
theorem joined {s : State} (h : InFlightConsistent s) (on : s.access.state ≠ .off) : s.station.state.Joined := by
  have follows := h.follows
  exact ⟨fun hs => on (follows.mpr (.inl hs)), fun hs => on (follows.mpr (.inr hs))⟩

theorem canLand {s : State} (h : InFlightConsistent s) (sending : s.access.state ≠ .sending) : s.CanLand :=
  .inr ⟨h.flight, sending⟩

theorem landed {s : State} (h : InFlightConsistent s) (spare : s.access.state.Spare) : s.Landed :=
  h.flight.landed spare.2.1 spare.2.2

theorem of_on {s : State} (flight : s.FlightMatches) (on : s.access.state ≠ .off) (joined : s.station.state.Joined) :
    InFlightConsistent s :=
  (inFlightConsistent_iff s).mpr ⟨⟨fun off => absurd off on, fun h => (h.elim joined.1 joined.2).elim⟩, flight⟩

theorem of_spare {s : State} (landed : s.Landed) (spare : s.access.state.Spare) (joined : s.station.state.Joined) :
    InFlightConsistent s :=
  of_on (landed.matches spare.2.1 spare.2.2) spare.1 joined

theorem of_off {s : State} (landed : s.Landed) (off : s.access.state = .off)
    (station : s.station.state = .unjoined ∨ s.station.state = .lineFault) : InFlightConsistent s :=
  (inFlightConsistent_iff s).mpr ⟨⟨fun _ => station, fun _ => off⟩, landed.matches (by simp [off]) (by simp [off])⟩

/-- What leaves the two states, the frame driven and the flights keeps the invariant. -/
theorem congr {s t : State} (h : InFlightConsistent s) (station : t.station.state = s.station.state)
    (state : t.access.state = s.access.state) (frame : t.access.frame = s.access.frame)
    (inFlight : t.engine.inFlight = s.engine.inFlight) (flight : t.flight = s.flight) : InFlightConsistent t := by
  refine (inFlightConsistent_iff t).mpr ⟨?_, h.flight.congr state frame inFlight flight⟩
  rw [AccessFollowsStation, state, station]
  exact h.follows

theorem of_blocks {s t : State} (h : InFlightConsistent s) (station : t.station.state = s.station.state)
    (access : t.access = s.access) (engine : t.engine = s.engine) (outbound : t.outbound = s.outbound) :
    InFlightConsistent t :=
  h.congr station (by rw [access]) (by rw [access]) (by rw [engine]) (State.flight_congr outbound)

theorem settles {s t : State} (h : InFlightConsistent s) (k : Settles s t) (engine : t.engine = s.engine)
    (flight : t.flight = s.flight) : InFlightConsistent t :=
  h.congr k.station_state (by rw [k.access]) (by rw [k.access]) (by rw [engine]) flight

theorem moves {s t : State} (h : InFlightConsistent s) (k : Moves s t) (flight : t.flight = s.flight) :
    InFlightConsistent t := by
  obtain ⟨settles, -, engine⟩ := k
  exact h.settles settles engine flight

/-- Where nothing is in flight the access controller may take any state of the kind. -/
theorem respare {s : State} {f : Access → Access} (h : InFlightConsistent s) (spare : s.access.state.Spare)
    (after : (f s.access).state.Spare) : InFlightConsistent (s.modAccess f) :=
  of_spare ((h.landed spare).congr rfl rfl) after (h.joined spare.1)

/-! ### Contending -/

theorem applyWants {s : State} (h : InFlightConsistent s) : InFlightConsistent s.applyWants := by
  unfold State.applyWants
  refine ite_keeps h fun ⟨idle, _⟩ => h.respare (by rw [idle]; decide) ?_
  show (if s.lineIdle = true then AccessState.gap else .defer).Spare
  split_ifs <;> decide

theorem contendOrIdle {s : State} (landed : s.Landed) (joined : s.station.state.Joined) :
    InFlightConsistent s.contendOrIdle := by
  refine of_spare (landed.congr rfl rfl) ?_ joined
  show (if s.wantsLine = true then AccessState.gap else .idle).Spare
  split_ifs <;> decide

/-- R21: out of OFF, in a station state that is joined. -/
theorem leaveOff {s : State} (landed : s.Landed) (joined : s.station.state.Joined) : InFlightConsistent s.leaveOff :=
  applyWants (of_spare (landed.congr rfl rfl) ⟨nofun, nofun, nofun⟩ joined)

/-- R32: a window that was open has closed, and the access controller contends or idles. -/
theorem closeWindow {s : State} (w : WindowResult) (h : InFlightConsistent s)
    (awaiting : s.access.state = .awaitReply) : InFlightConsistent (s.closeWindow w).contendOrIdle := by
  refine contendOrIdle ((h.flight.settleWindow awaiting w).congr rfl rfl) ?_
  show (s.settleWindow w).station.state.Joined
  rw [(s.settleWindow_settles w).station_state]
  exact h.joined (by simp [awaiting])

/-! ### OFF and UNJOINED -/

theorem enterOff {s : State} (h : s.CanLand) (station : s.station.state = .unjoined ∨ s.station.state = .lineFault) :
    InFlightConsistent s.enterOff := by
  refine of_off (h.closeOpenWindow.congr rfl rfl) (by rw [s.enterOff_access]; rfl) ?_
  show s.closeOpenWindow.station.state = .unjoined ∨ s.closeOpenWindow.station.state = .lineFault
  rwa [s.closeOpenWindow_state]

theorem enterUnjoined {s : State} (h : s.CanLand) : InFlightConsistent s.enterUnjoined :=
  enterOff (h.congr rfl rfl rfl rfl) (.inl rfl)

theorem flagChange {s : State} (h : InFlightConsistent s) : InFlightConsistent s.flagChange :=
  h.of_blocks rfl rfl rfl rfl

theorem lineFault {s : State} (reason : FaultReason) (h : s.CanLand) (follows : AccessFollowsStation s) :
    InFlightConsistent (s.lineFault reason) := by
  have blamed : (s.closeOpenWindow.modStation fun st => { st with faultReason := reason }).Landed :=
    h.closeOpenWindow.congr rfl rfl
  have stays (station : s.station.state = .unjoined ∨ s.station.state = .lineFault) : InFlightConsistent s := by
    have off : s.access.state = .off := follows.mpr station
    have landed : s.Landed := h.elim id fun ⟨h, sending⟩ => h.landed sending (by simp [off])
    exact of_off landed off station
  unfold State.lineFault
  split
  · exact enterOff (.inl (blamed.congr rfl rfl)) (.inr rfl)
  · exact (enterUnjoined (.inl blamed)).flagChange
  · obtain ⟨-, -, engine⟩ := State.abandonAll_moves
      (s.closeOpenWindow.modStation fun st => { st with faultReason := reason })
    exact (enterUnjoined (.inl (blamed.congr (by rw [engine]) (State.abandonAll_flight _)))).flagChange
  · next hs => exact stays (.inl hs)
  · next hs => exact stays (.inr hs)

/-! ### Requests -/

theorem configure {s : State} (a b c d e f g m : Byte) (h : InFlightConsistent s) :
    InFlightConsistent (answerConfigure a b c d e f g m s).state := by
  unfold answerConfigure
  dsimp only
  split_ifs
  · exact h
  · have same := s.configured_unchanged (configOf a b c d e f g m)
    refine h.of_blocks ?_ (same .access (by decide)) (same .engine (by decide)) (same .outbound (by decide))
    show (s.configured (configOf a b c d e f g m)).station.state = _
    rw [s.configured_station]
  · exact h

theorem join {s : State} (h : InFlightConsistent s) : InFlightConsistent (answerJoin s).state := by
  unfold answerJoin
  split_ifs with hs
  · exact h
  · exact h
  · have off : s.access.state = .off := h.follows.mpr (.inl (not_not.mp hs))
    have landed := h.flight.landed (by simp [off]) (by simp [off])
    exact leaveOff (s := s.joinCleared) (landed.congr rfl rfl) ⟨by nofun, by nofun⟩

theorem abandonAll {s : State} (h : InFlightConsistent s) : InFlightConsistent s.abandonAll :=
  h.moves s.abandonAll_moves s.abandonAll_flight

theorem watchQueues {s : State} (h : InFlightConsistent s) : InFlightConsistent s.watchQueues :=
  h.moves s.watchQueues_moves (State.flight_congr s.watchQueues_outbound)

theorem startLeave {s : State} (m : LeaveMode) (h : InFlightConsistent s) (hs : s.station.state = .active) :
    InFlightConsistent (s.startLeave m) := by
  have on : s.access.state ≠ .off := fun off => by simpa [hs] using h.follows.mp off
  have leaving : InFlightConsistent (s.leaving m) := of_on (h.flight.congr rfl rfl rfl rfl) on ⟨by nofun, by nofun⟩
  cases m with
  | drain => exact leaving.watchQueues.applyWants
  | abandon =>
    have dealt : s.startLeave .abandon = (s.leaving .abandon).abandonAll.watchQueues.applyWants := rfl
    exact dealt ▸ leaving.abandonAll.watchQueues.applyWants

theorem leave {s : State} (mode : Byte) (h : InFlightConsistent s) :
    InFlightConsistent (answerLeave mode s).state := by
  unfold answerLeave
  split
  · exact h
  split
  · exact h
  · unfold State.leaveJoining
    dsimp only
    split_ifs with sending
    exacts [h.of_blocks rfl rfl rfl rfl, enterUnjoined (h.canLand sending)]
  · next hs => exact h.startLeave _ hs
  · have changed : InFlightConsistent (s.modStation fun st => { st with leaveMode := some .abandon }) :=
      h.of_blocks rfl rfl rfl rfl
    have abandoned := changed.abandonAll.applyWants
    unfold State.changeLeave
    exact ite_keeps h fun _ => abandoned
  · next hs =>
    have off : s.access.state = .off := h.follows.mpr (.inr hs)
    exact enterUnjoined (h.abandonAll.canLand (by rw [s.abandonAll_settles.access]; simp [off]))

theorem post {s : State} (dest cls length : Byte) (payload : List Byte) (h : InFlightConsistent s) :
    InFlightConsistent (answerPost dest cls length payload s).state := by
  unfold answerPost
  split
  · exact h
  split
  · exact h
  split
  · exact h
  · next i hi =>
    have free : (s.slot i).msg = none := by simpa using List.find?_some hi
    have slot : i < 48 := List.mem_range.mp (List.mem_of_find?_eq_some hi)
    exact applyWants (h.settles (s.posted_settles i _ _) (s.posted_engine i _ _) (State.posted_flight slot free rfl))

theorem cancel {s : State} (slot tag : Byte) (h : InFlightConsistent s) :
    InFlightConsistent (answerCancel slot tag s).state := by
  have marked := h.moves (s.modMessage_moves slot.toNat _) (State.setMark_flight .cancelled s slot.toNat)
  unfold answerCancel
  split
  · exact h
  · next m named =>
    obtain ⟨-, -, -, hm⟩ := (s.named_eq_some_iff _ _ m).mp named
    have resolved (hs : m.state.flight = none) : InFlightConsistent (s.resolve slot.toNat .cancelled).applyWants := by
      have waits : s.flight slot.toNat = none := by rw [State.flight_of_slot hm, Message.flight, hs]; rfl
      exact (h.moves (s.resolve_moves _ _) (State.resolve_flight_same waits _)).applyWants
    split
    · exact h
    · next hs => exact resolved (by rw [hs]; rfl)
    · next hs => exact resolved (by rw [hs]; rfl)
    · exact marked
    · exact marked

theorem setH {s : State} (hold : Bool) (h : InFlightConsistent s) : InFlightConsistent (s.setH hold) := by
  have same := s.setH_unchanged hold
  exact h.of_blocks (by rw [s.setH_station]) (same .access (by decide)) (same .engine (by decide))
    (same .outbound (by decide))

theorem fetch {s : State} (h : InFlightConsistent s) : InFlightConsistent (answerFetch s).state := by
  unfold answerFetch
  split
  · exact h
  · next rest _ =>
    have removed : InFlightConsistent (s.modInbound fun b => { b with records := rest }) := h.of_blocks rfl rfl rfl rfl
    exact (removed.setH _).applyWants

theorem takeOutcomes {s : State} (max : Byte) (h : InFlightConsistent s) :
    InFlightConsistent (answerTakeOutcomes max s).state := by
  unfold answerTakeOutcomes
  split_ifs
  · exact h
  · exact h
  · have drained : Moves s (s.taken max.toNat) := Moves.trans ⟨s.modOutcomes_settles _, rfl, rfl⟩ (State.refill_moves _)
    exact h.moves drained (s.taken_flight max.toNat)

theorem readCounters {s : State} (clear : Byte) (h : InFlightConsistent s) :
    InFlightConsistent (answerReadCounters clear s).state := by
  unfold answerReadCounters
  split_ifs
  exacts [h, h.of_blocks rfl rfl rfl rfl, h]

/-! ### Heard frames -/

theorem addressConflict {s : State} (h : InFlightConsistent s) (sending : s.access.state ≠ .sending) :
    InFlightConsistent s.addressConflict := by
  have blamed :
      (s.count .addressConflicts).modStation (fun st => { st with faultReason := .addressInUse }) |>.CanLand :=
    (h.canLand sending).congr rfl rfl rfl rfl
  unfold State.addressConflict
  dsimp only
  split_ifs
  exacts [(enterUnjoined blamed).flagChange, h.of_blocks rfl rfl rfl rfl]

theorem modPeer {s : State} (a : Nat) (f : PeerRecord → PeerRecord) (h : InFlightConsistent s) :
    InFlightConsistent (s.modPeer a f) :=
  h.settles (s.modPeer_settles a f) (s.modPeer_engine a f) (s.modPeer_flight a f)

theorem makeSilent {s : State} (a : Nat) (h : InFlightConsistent s) : InFlightConsistent (s.makeSilent a) :=
  h.settles (s.makeSilent_settles a) (s.makeSilent_unchanged a .engine (by decide)) (s.makeSilent_flight a)

/-- R15: a frame changes no state, nor what is in flight. -/
theorem route {s : State} (f : Frame) (h : InFlightConsistent s) : InFlightConsistent (s.route f) := by
  by_cases hk : f.kind = .notice .leave
  · rw [State.route, hk]
    exact (h.makeSilent f.source).modPeer f.source _
  · obtain ⟨_, _, _, _, _, routed⟩ := s.route_files hk
    rw [routed]
    exact h.congr rfl rfl rfl rfl rfl

theorem takeFound {s : State} (found : Found) (h : InFlightConsistent s) (sending : s.access.state ≠ .sending) :
    InFlightConsistent (s.takeFound found) := by
  cases found with
  | noFrame => exact h
  | discarded k => exact h.of_blocks rfl rfl rfl rfl
  | valid f =>
    have counted : InFlightConsistent (s.count .framesHeard) := h.of_blocks rfl rfl rfl rfl
    unfold State.takeFound State.takeValid
    dsimp only
    split_ifs
    exacts [counted.addressConflict sending, (counted.modPeer _ _).route f]

theorem accessEnded {s : State} (w : WindowResult) (h : InFlightConsistent s) :
    InFlightConsistent (s.accessEnded w) := by
  unfold State.accessEnded
  split
  · next hs => exact h.respare (by rw [hs]; decide) ⟨nofun, nofun, nofun⟩
  · next hs => exact ite_keeps h fun _ => h.closeWindow w hs
  · exact h.applyWants

theorem endOfFrame {s : State} (rxd : Levels) (hde : s.de = false) (h : InFlightConsistent s) :
    InFlightConsistent (s.endOfFrame rxd) := by
  have sending : s.access.state ≠ .sending := fun hs => by simp [State.de, hs] at hde
  unfold State.endOfFrame
  split
  · exact h
  · have ended : InFlightConsistent (s.occupyWindow rxd).lineEnded := h.congr rfl rfl rfl rfl rfl
    unfold State.endBurst
    split_ifs
    exacts [(ended.takeFound _ sending).accessEnded _, ended.accessEnded _]

theorem beginActivity {s : State} (rxd : Levels) (h : InFlightConsistent s) :
    InFlightConsistent (s.beginActivity rxd) := by
  have heard (f : Line → Line) : InFlightConsistent (s.modLine f) := h.of_blocks rfl rfl rfl rfl
  unfold State.beginActivity
  cases hs : s.access.state with
  | gap | draw =>
    refine (heard _).respare (by rw [State.modLine_access, hs]; decide) ?_
    rw [State.modLine_access, hs]
    exact ⟨nofun, nofun, nofun⟩
  | _ => exact h.congr rfl (by simp [hs]) (by simp [hs]) rfl rfl

/-! ### Own frames -/

/-- R102, R103: the message taken is ON_LINE, the one in flight. -/
theorem takeMessage_flight {s : State} {d i : Nat} {m : Message} (h : s.Landed) (hm : (s.slot i).msg = some m) :
    (s.takeMessage d i m).flight = Function.update (fun _ => none) i (some (.sending, m.cls)) := by
  have advanced : (s.advanceTx m).flight = s.flight :=
    State.flight_congr (s.advanceTx_unchanged m .outbound (by decide))
  refine ((s.advanceTx m).setSlot_flight (s.slot_lt i m hm) _).trans ?_
  rw [advanced, h.flight]
  show Function.update (fun _ : Nat => (none : Option (AccessState × MsgClass))) i
    (some (.sending, (s.sequenced m).cls)) = _
  rw [s.sequenced_cls]

theorem win {s : State} (h : InFlightConsistent s) (hs : s.access.state = .draw) : InFlightConsistent s.win := by
  have spare : s.access.state.Spare := by rw [hs]; decide
  have landed := h.landed spare
  have joined := h.joined spare.1
  unfold State.win
  split
  · exact of_on ⟨⟨rfl, rfl⟩, fun i hi => absurd (congrFun landed.flight i) hi⟩ nofun joined
  · next d i m picked =>
    obtain ⟨hm, -⟩ := State.pick_message picked
    have kind : (s.messageFrame (s.sequenced m)).kind = m.cls.frameKind := by
      rw [State.messageFrame, s.sequenced_cls]
      cases m.cls <;> rfl
    have station : (s.advanceTx m).station = s.station := s.advanceTx_unchanged m .station (by decide)
    refine of_on (.of_message (i := i) rfl (takeMessage_flight (d := d) landed hm)
      (fun _ => congrArg some kind) nofun) nofun ?_
    show (s.advanceTx m).station.state.Joined
    rwa [station]
  · exact applyWants (h.respare spare ⟨nofun, nofun, nofun⟩)

/-- R45, R52, R54: the station leaves for UNJOINED, or stays joined. -/
theorem noticeCompleted {s : State} (kind : FrameKind) (landed : s.Landed) (follows : AccessFollowsStation s) :
    (s.noticeCompleted kind).Landed ∧ AccessFollowsStation (s.noticeCompleted kind) := by
  have unjoined : s.enterUnjoined.flagChange.Landed ∧ AccessFollowsStation s.enterUnjoined.flagChange := by
    have entered := (enterUnjoined (.inl landed)).flagChange
    have off : s.enterUnjoined.flagChange.access.state = .off := congrArg Access.state s.enterUnjoined_access
    exact ⟨entered.flight.landed (by simp [off]) (by simp [off]), entered.follows⟩
  unfold State.noticeCompleted
  split
  · split_ifs with joining
    · exact unjoined
    · refine ⟨landed.congr rfl rfl, fun off => ?_, nofun⟩
      simpa [joining] using follows.mp off
    · exact ⟨landed, follows⟩
  · split_ifs
    exacts [unjoined, ⟨landed, follows⟩]
  · exact ⟨landed, follows⟩

/-- Step 5 of R30 where nothing is in flight. -/
theorem afterContended {s : State} {kind : FrameKind} (hk : kind ≠ .data) (landed : s.Landed)
    (follows : AccessFollowsStation s) : InFlightConsistent (s.afterContended kind) := by
  unfold State.afterContended
  rw [if_neg hk]
  split_ifs with off
  · exact of_off landed off (follows.mp off)
  · exact contendOrIdle landed ⟨fun hs => off (follows.mpr (.inl hs)), fun hs => off (follows.mpr (.inr hs))⟩

theorem completeFrame {s : State} {f : Frame} (l : Line) (h : InFlightConsistent s) (hf : Drives s .sending f) :
    InFlightConsistent (s.completeFrame l f) := by
  have joined := h.joined (by simp [hf.1])
  unfold State.completeFrame
  dsimp only
  generalize hu : (((s.endDrive l).modAccess fun a => { a with n := 0 }).count .framesSent).frameSent f.kind f.h = u
  have sends : u.SendsItem f.kind := (h.flight.sendsItem hf).congr (by rw [← hu]; rfl) (by rw [← hu]; rfl)
  have settled := u.completeInFlight_settles
  have state : u.completeInFlight.access.state = .sending := by rw [settled.access, ← hu]; exact hf.1
  have station : u.completeInFlight.station.state = s.station.state := by rw [settled.station_state, ← hu]; rfl
  rcases sends.completeInFlight with ⟨kind, landed⟩ | ⟨kind, i, inFlight, flight⟩
  · have follows : AccessFollowsStation u.completeInFlight := by
      rw [AccessFollowsStation, state, station]
      exact ⟨nofun, fun unjoined => (unjoined.elim joined.1 joined.2).elim⟩
    obtain ⟨landed, follows⟩ := noticeCompleted f.kind landed follows
    exact afterContended kind landed follows
  · rw [kind]
    show InFlightConsistent (u.completeInFlight.afterContended .data)
    rw [State.afterContended, if_neg (by simp [state]), if_pos rfl]
    exact of_on (.of_message inFlight flight nofun fun _ => rfl) nofun (station ▸ joined)

theorem collide {s : State} {f : Frame} (l : Line) (h : InFlightConsistent s) (hf : Drives s .sending f) :
    InFlightConsistent (s.collide l) := by
  have joined := h.joined (by simp [hf.1])
  unfold State.collide
  dsimp only
  generalize hu : ((s.endDrive l).modAccess fun a => { a with state := .defer }).count .collisions = u
  have sends : u.SendsItem f.kind := (h.flight.sendsItem hf).congr (by rw [← hu]; rfl) (by rw [← hu]; rfl)
  have settled := u.withdrawInFlight_settles
  have state : u.withdrawInFlight.access.state = .defer := by rw [settled.access, ← hu]; rfl
  have station : u.withdrawInFlight.station.state = s.station.state := by rw [settled.station_state, ← hu]; rfl
  have counted (f : Access → Access)
      (deferred : (f u.withdrawInFlight.access).state = u.withdrawInFlight.access.state) :
      InFlightConsistent (u.withdrawInFlight.modAccess f) := by
    refine of_spare (sends.withdrawInFlight.congr rfl rfl) ?_ (station ▸ joined)
    rw [State.modAccess_access, deferred, state]
    decide
  have landed (f : Access → Access) : (u.withdrawInFlight.modAccess f).CanLand :=
    .inl (sends.withdrawInFlight.congr rfl rfl)
  split_ifs
  · exact lineFault _ (landed _) (counted _ rfl).follows
  · exact (enterUnjoined (landed fun a => { a with n := a.n + 1 })).flagChange
  · exact counted _ rfl

/-- A reply is sent where nothing is in flight (R33, R34). -/
theorem replied {s : State} {l : Line} {f : Frame} (h : InFlightConsistent s) (hf : Drives s .replying f) :
    ((s.endDrive l).count .framesSent).frameSent f.kind f.h |>.Landed :=
  (h.landed (by rw [hf.1]; decide)).congr rfl rfl

/-! ### Timers -/

theorem elapse {s : State} (ms : Nat) (h : InFlightConsistent s) : InFlightConsistent (s.elapse ms) :=
  h.congr rfl rfl rfl rfl (s.elapse_flight ms)

theorem beaconOut {s : State} (h : InFlightConsistent s) : InFlightConsistent s.beaconOut := by
  refine ite_keeps h fun _ => ?_
  dsimp only
  split_ifs
  exacts [applyWants (h.of_blocks rfl rfl rfl rfl), h.of_blocks rfl rfl rfl rfl]

/-- R113: a message that waits for its retry is not in flight, nor is it once QUEUED. -/
theorem retryOut {s : State} (slot : Nat) (h : InFlightConsistent s) : InFlightConsistent (s.retryOut slot) := by
  refine ite_keeps h fun due => applyWants ?_
  unfold Slot.retryDue at due
  cases hm : (s.slot slot).msg with
  | none => simp [hm] at due
  | some m =>
    have waits : m.state = .retryWait 0 := by simpa [hm] using due
    refine h.moves (s.modMessage_moves slot _) (State.modMessage_flight_same hm ?_)
    rw [Message.flight, Message.flight, waits]
    rfl

end InFlightConsistent

/-! ### Every step -/

theorem operationsKeep_inFlightConsistent : OperationsKeep InFlightConsistent where
  surroundings same h := h.of_blocks (by rw [(same .station (by decide) : _ = _)]) (same .access (by decide))
    (same .engine (by decide)) (same .outbound (by decide))
  elapse ms h := h.elapse ms
  pinReset _ _ _ := State.reset_inFlightConsistent.of_blocks rfl rfl rfl rfl
  restart _ _ _ := State.reset_inFlightConsistent.of_blocks rfl rfl rfl rfl
  status h := h.of_blocks rfl rfl rfl rfl
  configure _ _ _ _ _ _ _ _ h := h.configure _ _ _ _ _ _ _ _
  join h := h.join
  leave mode h := h.leave mode
  post _ _ _ _ h := h.post _ _ _ _
  cancel _ _ h := h.cancel _ _
  fetch h := h.fetch
  takeOutcomes max h := h.takeOutcomes max
  readCounters clear h := h.readCounters clear
  beginActivity rxd h := h.beginActivity rxd
  endOfFrame rxd hde h := h.endOfFrame rxd hde
  completeGap {s} hs h := by
    have heard : InFlightConsistent (s.reportIdle Config.accessGap).takeRandom := h.of_blocks rfl rfl rfl rfl
    exact heard.respare (by rw [show (s.reportIdle _).takeRandom.access = s.access from rfl, hs]; decide)
      ⟨nofun, nofun, nofun⟩
  reportIdle _ h := h.of_blocks rfl rfl rfl rfl
  win hs h := h.win hs
  completeFrame _ hf h := h.completeFrame _ hf
  collide _ hf h := h.collide _ hf
  driveReply {s f} _ hs h := by
    have spare : s.access.state.Spare := by rcases hs with hs | hs | hs | hs <;> rw [hs] <;> decide
    exact .of_spare ((h.landed spare).congr rfl rfl) ⟨nofun, nofun, nofun⟩ (h.joined spare.1)
  completeReply _ hf h := .contendOrIdle (h.replied hf) (h.joined (by simp [hf.1]))
  abandonReply _ hf h :=
    .of_spare ((h.landed (by rw [hf.1]; decide)).congr rfl rfl) ⟨nofun, nofun, nofun⟩ (h.joined (by simp [hf.1]))
  closeUnanswered hs h := h.closeWindow _ hs
  lineFault {s} reason _ hde h := .lineFault reason (h.canLand fun hs => by simp [State.de, hs] at hde) h.follows
  recover hs h := by
    have off := h.follows.mpr (.inr hs)
    exact .leaveOff ((h.flight.landed (by simp [off]) (by simp [off])).congr rfl rfl) ⟨nofun, nofun⟩
  listenOut h := ite_keeps h fun _ => .applyWants (h.of_blocks rfl rfl rfl rfl)
  beaconOut h := h.beaconOut
  renewalOut h := ite_keeps h fun _ => .applyWants (h.of_blocks rfl rfl rfl rfl)
  presenceOut peer h := ite_keeps h fun _ => (h.makeSilent peer).applyWants
  holdOut peer h := ite_keeps h fun _ => (h.modPeer peer _).applyWants
  retryOut slot h := h.retryOut slot

/-- Settles O57: an operation leaves the item in flight as it is, sends the next where nothing was in flight, or ends it
on the way out of SENDING or AWAIT_REPLY. -/
theorem stepKeepsInFlightConsistent : Obligations.StepKeepsInFlightConsistent := by
  unfold Obligations.StepKeepsInFlightConsistent
  exact fun _ _ h ht => operationsKeep_inFlightConsistent.step h ht

end Sys2Proof.Machine
end

/-! SUPPORT. Each slot stands in one place (R83): what a resolution does with it (R92, R137), and the sum of the pool
(R96). -/

section
namespace Sys2Proof.Machine

-- One proof at a time: a thread for each that waits for the same case split can run the checker out of memory.
set_option Elab.async false

/-! ### Resolution -/

/-- Settles O48: the equations of a resolution, with room in the outcome queue and without. -/
theorem resolutionHandsOutcome : Obligations.ResolutionHandsOutcome := by
  unfold Obligations.ResolutionHandsOutcome
  intro s i r m h hm hl
  have slot := State.resolve_slot_self hm hl r
  have outcomes := State.resolve_outcomes hm hl r
  refine ⟨State.resolve_owed hm hl r h, State.resolve_queue hm hl r h, fun j => s.resolve_slot_other i r,
    fun room => ?_, fun full => ?_, State.resolve_consistent hm hl r h⟩
  · rw [if_pos room] at slot outcomes
    exact ⟨slot, by rw [outcomes]⟩
  · have full : ¬ s.outcomes.queue.length < 16 := by omega
    rw [if_neg full] at slot outcomes
    exact ⟨slot, by rw [outcomes], by rw [outcomes]⟩

/-! ### The pool -/

/-- The slots as their places list them: the FREE ones, the queues' in order of destination, the waiting ones (R83). -/
def State.pool (s : State) : List Nat :=
  (List.range 48).filter (fun i => (s.slot i).msg.isNone) ++ destinations.flatMap s.queue ++ s.outcomes.waiting

theorem State.freeSlots_eq (s : State) :
    s.freeSlots = ((List.range 48).filter fun i => (s.slot i).msg.isNone).length := by
  have slots : s.outbound.slots.toList = (List.range 48).map s.slot := by
    refine List.ext_getElem (by simp) fun i hi _ => ?_
    have hi : i < Config.slots := by simpa using hi
    simp [State.slot, hi]
  rw [State.freeSlots, slots, List.countP_map, List.countP_eq_length_filter]
  rfl

theorem State.length_pool (s : State) : s.pool.length =
    s.freeSlots + (destinations.map fun d => (s.queue d).length).sum + s.outcomes.waiting.length := by
  rw [State.pool, List.length_append, List.length_append, List.length_flatMap, s.freeSlots_eq]

/-- Each slot of the part has one place (R83). -/
theorem StoreConsistent.count_pool {s : State} (h : StoreConsistent s) {i : Nat} (hi : i < 48) :
    s.pool.count i = 1 := by
  have once := List.count_eq_one_of_mem List.nodup_range (List.mem_range.mpr hi)
  have total : s.pool.count i = (if (s.slot i).msg.isNone then 1 else 0) + s.queuedCount i +
      s.outcomes.waiting.count i := by
    rw [State.pool, List.count_append, List.count_append, List.count_flatMap]
    congr 2
    split_ifs with free
    · exact (List.count_filter (p := fun i => (s.slot i).msg.isNone) free).trans once
    · exact List.count_eq_zero.mpr fun there => free (List.mem_filter.mp there).2
  have placed := h.placed hi
  rw [total]
  cases hm : (s.slot i).msg with
  | none =>
    obtain ⟨away, gone⟩ := (State.slotPlaced_free hm).mp placed
    simp [away, gone]
  | some m =>
    by_cases hl : m.Live
    · obtain ⟨-, queued, -, away⟩ := (State.slotPlaced_live hm hl).mp placed
      simp [queued, away]
    · obtain ⟨r, hr⟩ := Message.done_of_not_live hl
      obtain ⟨gone, waits⟩ := (State.slotPlaced_done hm hr).mp placed
      simp [gone, waits]

/-- The waiting-outcome list names slots of the part. -/
theorem StoreConsistent.lt_of_mem_waiting {s : State} (h : StoreConsistent s) {i : Nat}
    (hi : i ∈ s.outcomes.waiting) : i < 48 := by
  obtain ⟨-, -, waiting, -⟩ := h
  exact waiting i hi

/-- Only slots of the part have a place. -/
theorem StoreConsistent.lt_of_mem_pool {s : State} (h : StoreConsistent s) {i : Nat} (hi : i ∈ s.pool) : i < 48 := by
  rcases List.mem_append.mp hi with hi | hi
  · rcases List.mem_append.mp hi with hi | hi
    · exact List.mem_range.mp (List.mem_of_mem_filter hi)
    · obtain ⟨d, -, hd⟩ := List.mem_flatMap.mp hi
      exact h.lt_of_mem_queue hd
  · exact h.lt_of_mem_waiting hi

/-- R83: the places hold every slot of the part, once. -/
theorem StoreConsistent.pool_perm {s : State} (h : StoreConsistent s) : s.pool.Perm (List.range 48) := by
  refine List.perm_iff_count.mpr fun i => ?_
  by_cases hi : i < 48
  · rw [h.count_pool hi, List.count_eq_one_of_mem List.nodup_range (List.mem_range.mpr hi)]
  · rw [List.count_eq_zero.mpr fun there => hi (h.lt_of_mem_pool there),
      List.count_eq_zero.mpr fun there => hi (List.mem_range.mp there)]

/-- Settles O49: the places list the 48 slots in some order, and have as many entries. -/
theorem poolAddsUp : Obligations.PoolAddsUp := by
  unfold Obligations.PoolAddsUp
  intro s h
  rw [← s.length_pool, h.pool_perm.length_eq, List.length_range]

end Sys2Proof.Machine
end

/-! SUPPORT. POST (R86, R87): the checks on the bytes of the request, the lowest FREE slot and the answer by check. -/

section
namespace Sys2Proof.Machine

-- One proof at a time: a thread for each that waits for the same case split can run the checker out of memory.
set_option Elab.async false

/-! ### The checks -/

/-- R86: the checks that need no slot, on the bytes of the request. -/
theorem State.postRefusal_bytes (s : State) (dest cls length : Byte) :
    s.postRefusal dest.toNat cls.toNat length.toNat =
      if dest = 0 ∨ 31 < dest.toNat ∨ dest.toNat = s.station.address then some .badDest
      else if 64 < length.toNat then some .tooLong
      else if 1 < cls.toNat ∨ (cls = 0 ∧ dest = 31) then some .badClass
      else if dest ≠ 31 ∧ (s.peer dest.toNat).presence = .silent then some .peerSilent
      else none := by
  have zero (b : Byte) : b.toNat = 0 ↔ b = 0 := BitVec.toNat_inj (y := 0)
  have broadcast : dest.toNat = 31 ↔ dest = 31 := BitVec.toNat_inj (y := 31)
  simp only [State.postRefusal, Config.payloadMax, Config.broadcast, Ne, zero, broadcast]

/-- R87: the lowest-numbered FREE slot. -/
theorem State.lowestFree_eq_some_iff (s : State) (i : Nat) :
    s.lowestFree = some i ↔ i < 48 ∧ (s.slot i).msg = none ∧ ∀ j < i, (s.slot j).msg ≠ none := by
  have some (x : Option Message) : x.isSome = true ↔ x ≠ none := Option.isSome_iff_ne_none
  simp [State.lowestFree, List.find?_range_eq_some, some, Config.slots, and_left_comm]

theorem State.lowestFree_eq_none_iff (s : State) : s.lowestFree = none ↔ ∀ i < 48, (s.slot i).msg ≠ none := by
  simp [State.lowestFree]

/-! ### The answer -/

/-- An empty slot: the block's state, with the answer in the slot (R152). -/
theorem State.present_answer {s u : State} {answer : State → Answer} {r : ReplyResult} {data : List Byte} (code : Byte)
    (h : s.link.reply = none) (ha : answer s = ⟨u, r, data⟩) :
    s.present code answer = u.modLink fun l => { l with reply := some ⟨code, r, data⟩ } := by
  rw [State.present_free s code answer h, ha]
  rfl

section
variable {s : State} {dest cls length : Byte} {payload : List Byte}

/-- R154: with the bytes its length byte announces, the first of them are the payload. -/
theorem answerPostBytes_eq (announced : length.toNat ≤ 64 → length.toNat ≤ payload.length) :
    answerPostBytes dest cls length payload s = answerPost dest cls length (payload.take length.toNat) s :=
  if_neg fun ⟨short, missing⟩ => absurd (announced short) missing.not_ge

theorem answerPost_notActive (outside : ¬ (s.station.state = .active ∨ s.station.state = .lineFault)) :
    answerPost dest cls length payload s = s.unchanged .notActive :=
  if_pos (not_or.mp outside)

variable (taken : s.station.state = .active ∨ s.station.state = .lineFault)
include taken

theorem answerPost_refused {r : ReplyResult} (refusal : s.postRefusal dest.toNat cls.toNat length.toNat = some r) :
    answerPost dest cls length payload s = s.unchanged r := by
  rw [answerPost, if_neg fun h => not_or.mpr h taken, refusal]

theorem answerPost_noSlot (passed : s.postRefusal dest.toNat cls.toNat length.toNat = none)
    (full : s.lowestFree = none) : answerPost dest cls length payload s = s.unchanged .noSlot := by
  rw [answerPost, if_neg fun h => not_or.mpr h taken, passed, full]

theorem answerPost_accepted {i : Nat} (passed : s.postRefusal dest.toNat cls.toNat length.toNat = none)
    (free : s.lowestFree = some i) : answerPost dest cls length payload s =
      ⟨s.allocate i (newMessage dest.toNat cls.toNat payload), .ok, [byte i, byte (nextTag (s.slot i).tag)]⟩ := by
  rw [answerPost, if_neg fun h => not_or.mpr h taken, passed, free]

end

/-- Settles O18: the checks on the bytes decide the answer in their order, and after them the lowest FREE slot. -/
theorem postChecksInOrder : Obligations.PostChecksInOrder := by
  unfold Obligations.PostChecksInOrder
  intro dest cls length payload s empty announced refused taken badDest tooLong badClass silent
  have bytes : answerPostBytes dest cls length payload s = _ := answerPostBytes_eq announced
  have refuse {r : ReplyResult} (answer : answerPost dest cls length (payload.take length.toNat) s = s.unchanged r) :
      refused r := congrArg _ (s.present_unchanged Code.post _ r empty (bytes.trans answer))
  have checks : s.postRefusal dest.toNat cls.toNat length.toNat =
      if badDest then some .badDest else if tooLong then some .tooLong else if badClass then some .badClass
      else if silent then some .peerSilent else none := s.postRefusal_bytes dest cls length
  refine ⟨fun outside => refuse (answerPost_notActive outside), fun active h₁ => ?_, fun active h₁ h₂ => ?_,
    fun active h₁ h₂ h₃ => ?_, fun active h₁ h₂ h₃ h₄ => ?_, fun active h₁ h₂ h₃ h₄ full => ?_,
    fun active h₁ h₂ h₃ h₄ ⟨i, hi, free⟩ => ?_⟩
  · exact refuse (answerPost_refused active (by rw [checks, if_pos h₁]))
  · exact refuse (answerPost_refused active (by rw [checks, if_neg h₁, if_pos h₂]))
  · exact refuse (answerPost_refused active (by rw [checks, if_neg h₁, if_neg h₂, if_pos h₃]))
  · exact refuse (answerPost_refused active (by rw [checks, if_neg h₁, if_neg h₂, if_neg h₃, if_pos h₄]))
  · have passed := checks.trans (by rw [if_neg h₁, if_neg h₂, if_neg h₃, if_neg h₄])
    exact refuse (answerPost_noSlot active passed (s.lowestFree_eq_none_iff.mpr full))
  · have passed := checks.trans (by rw [if_neg h₁, if_neg h₂, if_neg h₃, if_neg h₄])
    obtain ⟨j, lowest⟩ := Option.ne_none_iff_exists'.mp
      fun none : s.lowestFree = none => s.lowestFree_eq_none_iff.mp none i hi free
    have answer := bytes.trans (answerPost_accepted active passed lowest)
    exact ⟨_, congrArg Host.Outcome.next (s.present_answer Code.post empty answer), rfl⟩

/-! ### An accepted POST -/

theorem State.posted_unchanged (s : State) (i tag : Nat) (m : Message) :
    UnchangedBut [.outbound] s (s.posted i tag m) := by
  have written : UnchangedBut [.outbound] s (s.setSlot i ⟨tag, some m⟩) := s.modOutbound_unchanged _
  refine written.trans ?_
  unfold State.posted State.modQueue
  split_ifs
  exacts [.refl _ _, State.modOutbound_unchanged _ _]

/-- R87: the message record, on the bytes of the request. -/
theorem newMessage_bytes (dest cls : Byte) (payload : List Byte) : newMessage dest.toNat cls.toNat payload =
    ⟨dest.toNat, if cls = 0 then .acked else .datagram, payload, 0, none, .queued⟩ := by
  have zero : cls.toNat = 0 ↔ cls = 0 := BitVec.toNat_inj (y := 0)
  simp only [newMessage, zero]

section
variable (s : State) (i : Nat) (m : Message)

theorem State.allocate_unchanged : UnchangedBut [.access, .outbound] s (s.allocate i m) :=
  ((s.posted_unchanged i _ m).append (State.applyWants_unchanged _)).mono (by decide)

theorem State.allocate_outbound : (s.allocate i m).outbound = (s.posted i (nextTag (s.slot i).tag) m).outbound :=
  State.applyWants_unchanged _ .outbound (by decide)

/-- R80, R87: the slot holds the message under its next tag. -/
theorem State.allocate_slot_self (hi : i < 48) : (s.allocate i m).slot i = ⟨nextTag (s.slot i).tag, some m⟩ :=
  (State.slot_congr (s.allocate_outbound i m) i).trans (s.posted_slot_self i _ m hi)

theorem State.allocate_slot_other {j : Nat} (hj : j ≠ i) : (s.allocate i m).slot j = s.slot j :=
  (State.slot_congr (s.allocate_outbound i m) j).trans (s.posted_slot_other i _ m hj)

/-- R84: the slot stands last in the queue of its destination. -/
theorem State.allocate_queue_self (hd : m.dest ∈ destinations) :
    (s.allocate i m).queue m.dest = s.queue m.dest ++ [i] :=
  (State.queue_congr (s.allocate_outbound i m) _).trans (s.posted_queue_self i _ hd)

theorem State.allocate_queue_other {d : Nat} (hd : d ≠ m.dest) : (s.allocate i m).queue d = s.queue d :=
  (State.queue_congr (s.allocate_outbound i m) d).trans (s.posted_queue_other i _ m hd)

/-- R22: an IDLE access controller contends if the station now wants the line. -/
theorem State.allocate_access :
    (s.allocate i m).access = { s.access with state := (s.allocate i m).access.state } ∧
    (s.allocate i m).access.state =
      if s.access.state = .idle ∧ (s.allocate i m).wantsLine = true then (if s.lineIdle = true then .gap else .defer)
      else s.access.state := by
  have same := s.posted_unchanged i (nextTag (s.slot i).tag) m
  have line : _ = s.line := same .line (by decide)
  have access : _ = s.access := same .access (by decide)
  have contended := (s.posted i (nextTag (s.slot i).tag) m).applyWants_access
  rwa [access, State.lineIdle, line] at contended

end

/-- Settles O17: with every check met the answer allocates the lowest FREE slot. -/
theorem postTakesLowestSlot : Obligations.PostTakesLowestSlot := by
  unfold Obligations.PostTakesLowestSlot
  intro dest cls length payload s i empty taken hlow hhigh own short whole class_le classed present hi free lower
  have passed : s.postRefusal dest.toNat cls.toNat length.toNat = none := by
    have named : ¬ (dest = 0 ∨ 31 < dest.toNat ∨ dest.toNat = s.station.address) :=
      not_or.mpr ⟨fun h => by simp [h] at hlow, not_or.mpr ⟨hhigh.not_gt, own⟩⟩
    rw [s.postRefusal_bytes, if_neg named, if_neg short.not_gt,
      if_neg (not_or.mpr ⟨class_le.not_gt, classed⟩), if_neg fun ⟨h, silent⟩ => present h silent]
  have answer := (answerPostBytes_eq fun _ => whole).trans
    (answerPost_accepted taken passed ((s.lowestFree_eq_some_iff i).mpr ⟨hi, free, lower⟩))
  have written := newMessage_bytes dest cls (payload.take length.toNat)
  generalize newMessage dest.toNat cls.toNat (payload.take length.toNat) = m at answer written
  have to_dest : m.dest = dest.toNat := congrArg Message.dest written
  have slot := s.allocate_slot_self i m hi
  have tag : ((s.allocate i m).slot i).tag = nextTag (s.slot i).tag := congrArg Slot.tag slot
  have queue := s.allocate_queue_self i m (to_dest ▸ State.postRefusal_dest passed)
  have other (d : Nat) (hd : d ≠ dest.toNat) := s.allocate_queue_other i m (to_dest ▸ hd)
  obtain ⟨kept, contends⟩ := s.allocate_access i m
  have same := s.allocate_unchanged i m
  rw [to_dest] at queue
  refine ⟨_, congrArg Host.Outcome.next (s.present_answer Code.post empty answer), ?_,
    (congrArg Slot.msg slot).trans (congrArg some written), tag,
    fun j => s.allocate_slot_other i m, queue, other, ?_, kept, contends, State.applyWants_idle _⟩
  · exact (same.append (State.modLink_unchanged _ _)).mono (by decide)
  · refine (State.placed_link (same .link (by decide)) _).trans ?_
    rw [← tag]
    rfl

end Sys2Proof.Machine
end

/-! SUPPORT. CANCEL (R89, R90): a mark by the state of the message, and the answer by the slot that the handle names. -/

section
namespace Sys2Proof.Machine

-- One proof at a time: a thread for each that waits for the same case split can run the checker out of memory.
set_option Elab.async false

/-! ### The mark -/

section
variable {s : State} {i : Nat} {m : Message} (hm : (s.slot i).msg = some m) (k : Mark) {mark : Option Mark}
include hm

/-- R90: a message ON_LINE gets the mark unless it carries one. -/
theorem State.setMark_onLine (hs : m.state = .onLine mark) : s.setMark k i =
    s.setSlot i ⟨(s.slot i).tag, some { m with state := .onLine (some (mark.getD k)) }⟩ := by
  obtain ⟨dest, cls, payload, attempts, seq, state⟩ := m
  subst hs
  rw [State.setMark, State.modMessage, hm]
  cases mark <;> rfl

/-- R90: a message in AWAIT_REPLY gets the mark unless it carries one. -/
theorem State.setMark_awaitReply (hs : m.state = .awaitReply mark) : s.setMark k i =
    s.setSlot i ⟨(s.slot i).tag, some { m with state := .awaitReply (some (mark.getD k)) }⟩ := by
  obtain ⟨dest, cls, payload, attempts, seq, state⟩ := m
  subst hs
  rw [State.setMark, State.modMessage, hm]
  cases mark <;> rfl

end

/-! ### The answer -/

section
variable {s : State} {slot tag : Byte}

theorem answerCancel_unnamed (h : s.named slot.toNat tag.toNat = none) :
    answerCancel slot tag s = s.unchanged .unknownHandle := by
  rw [answerCancel, h]

variable {m : Message} (named : s.named slot.toNat tag.toNat = some m)
include named

theorem answerCancel_done {r : MsgResult} (hs : m.state = .done r) :
    answerCancel slot tag s = s.unchanged .finished := by
  simp only [answerCancel, named, hs]

theorem answerCancel_onLine {mark : Option Mark} (hs : m.state = .onLine mark) :
    answerCancel slot tag s = ⟨s.setMark .cancelled slot.toNat, .pending, []⟩ := by
  simp only [answerCancel, named, hs]

theorem answerCancel_awaitReply {mark : Option Mark} (hs : m.state = .awaitReply mark) :
    answerCancel slot tag s = ⟨s.setMark .cancelled slot.toNat, .pending, []⟩ := by
  simp only [answerCancel, named, hs]

/-- R89: a message that waits is resolved, and R22 follows. -/
theorem answerCancel_waits (hs : m.state = .queued ∨ ∃ ms, m.state = .retryWait ms) :
    answerCancel slot tag s = ⟨(s.resolve slot.toNat .cancelled).applyWants, .cancelled, []⟩ := by
  rcases hs with hs | ⟨ms, hs⟩ <;> simp only [answerCancel, named, hs]

end

/-- R80: a handle that names no message. -/
theorem State.named_eq_none {s : State} {i tag : Nat}
    (h : 48 ≤ i ∨ tag = 0 ∨ (s.slot i).msg = none ∨ (s.slot i).tag ≠ tag) : s.named i tag = none := by
  refine Option.eq_none_iff_forall_ne_some.mpr fun m named => ?_
  obtain ⟨hi, ht, same, hm⟩ := (s.named_eq_some_iff i tag m).mp named
  rcases h with h | h | h | h
  · exact absurd hi h.not_gt
  · exact ht h
  · exact nomatch h.symm.trans hm
  · exact h same

/-- Settles O19: the handle names a message or none, and the state of the message it names decides the answer. -/
theorem cancelBySlotState : Obligations.CancelBySlotState := by
  unfold Obligations.CancelBySlotState
  intro slot tag s empty i answered
  have zero : tag.toNat = 0 ↔ tag = 0 := BitVec.toNat_inj (y := 0)
  have refuse {r : ReplyResult} (answer : answerCancel slot tag s = s.unchanged r) : answered r :=
    congrArg Host.Outcome.next (s.present_unchanged Code.cancel _ r empty answer)
  refine ⟨fun unnamed => refuse (answerCancel_unnamed (State.named_eq_none (by rwa [zero]))), ?_⟩
  intro m hi ht same hm
  have named := (s.named_eq_some_iff i tag.toNat m).mpr ⟨hi, mt zero.mp ht, same, hm⟩
  refine ⟨fun r done => refuse (answerCancel_done named done), fun mark hs => ?_, fun mark hs => ?_, fun hs h => ?_⟩
  · rw [← State.setMark_onLine hm _ hs]
    exact congrArg Host.Outcome.next (State.present_answer Code.cancel empty (answerCancel_onLine named hs))
  · rw [← State.setMark_awaitReply hm _ hs]
    exact congrArg Host.Outcome.next (State.present_answer Code.cancel empty (answerCancel_awaitReply named hs))
  · have live : m.Live := by
      intro r done
      rcases hs with hs | ⟨ms, hs⟩ <;> exact nomatch hs.symm.trans done
    have moves := s.resolve_moves i .cancelled
    have wants := (s.resolve i .cancelled).applyWants_unchanged
    have outbound : _ = (s.resolve i .cancelled).outbound := wants .outbound (by decide)
    have outcomes : _ = (s.resolve i .cancelled).outcomes := wants .outcomes (by decide)
    have station := (s.resolve_settles i .cancelled).station
    rw [← State.applyWants_station (s.resolve i .cancelled)] at station
    refine ⟨_, congrArg Host.Outcome.next (State.present_answer Code.cancel empty (answerCancel_waits named hs)),
      ?_, ?_, ?_, fun d => ?_, fun j hj => ?_, ?_⟩
    · exact ((moves.unchanged.append wants).append (State.modLink_unchanged _ _)).mono (by decide)
    · exact State.placed_link ((moves.unchanged .link (by decide)).trans (wants .link (by decide))) _
    · exact (State.owedOutcomes_congr outcomes fun j _ => State.doneOutcome_congr (State.slot_congr outbound j)).trans
        (State.resolve_owed hm live _ h)
    · exact (State.queue_congr outbound d).trans (State.resolve_queue hm live _ h d)
    · exact (State.slot_congr outbound j).trans (s.resolve_slot_other i _ hj)
    · exact station

end Sys2Proof.Machine
end

/-! SUPPORT. The reply that settles the message in flight (R108, R109, R110): the peer table takes the frame, and then
the window closes with its result. -/

section
namespace Sys2Proof.Machine

-- One proof at a time: a thread for each that waits for the same case split can run the checker out of memory.
set_option Elab.async false

/-! ### The frame closes the window -/

/-- What a reply to the message in flight closes its window with (R108). -/
def FrameKind.settles : FrameKind → WindowResult
  | .ack => .ack
  | .refuse => .refuse
  | _ => .noReply

/-- R31: an occupied window stays occupied, whatever the levels. -/
theorem State.occupyWindow_of_occupied {s : State} (h : s.access.occupied = true) (rxd : Levels) :
    s.occupyWindow rxd = s := by
  have stays : ({ s.access with occupied := true } : Access) = s.access := by rw [← h]
  unfold State.occupyWindow State.modAccess
  simp only [h, Bool.true_or, stays]

section
variable {s : State} {f : Frame} {i : Nat} {m : Message} {mark : Option Mark} (h : AwaitsReply s i m mark)
  (ho : s.access.occupied = true) (hr : f.Replies s m)
include h ho hr

/-- R108: the frame that answers the message in flight closes its window with the result of its kind. -/
theorem State.windowReply_of_replies : s.windowReply f = f.kind.settles := by
  obtain ⟨hk, matched⟩ := hr
  unfold State.windowReply
  rw [if_pos ⟨h.access, ho⟩, h.inFlight]
  dsimp only
  rw [h.slot]
  dsimp only
  rw [if_pos matched]
  rcases List.mem_pair.mp hk with hk | hk <;> rw [hk] <;> rfl

/-- R15, R64: the reply reaches its sender's record, and nothing else before the window closes. -/
theorem State.takeValid_reply : s.takeValid f = s.learn f := by
  have files := s.learn_files f
  have same : f.Replies (s.learn f) m := by rwa [Frame.Replies, files.address]
  have reply := State.windowReply_of_replies (files.awaitsReply h) (files.occupied.trans ho) same
  obtain ⟨hk, -, hsource, -⟩ := hr
  rw [State.takeValid_other hsource, State.route]
  rcases List.mem_pair.mp hk with hk | hk <;> simp [hk, reply, FrameKind.settles]

end

/-- R32: the window closes with a result, and the access controller contends or idles. -/
def State.closeWith (s : State) (w : WindowResult) : State := (s.closeWindow w).contendOrIdle

theorem State.closeWith_access (s : State) (w : WindowResult) :
    (s.closeWith w).access = { s.access with
      state := if (s.closeWith w).wantsLine = true then .gap else .idle
      occupied := false } := by
  show ({ (s.closeWindow w).access with
    state := if (s.closeWindow w).wantsLine = true then .gap else .idle } : Access) = _
  rw [s.closeWindow_access]
  rfl

theorem State.closeWith_unchanged (s : State) (w : WindowResult) :
    UnchangedBut [.station, .peers, .outbound, .engine, .outcomes, .access] s (s.closeWith w) :=
  (((s.settleWindow_settles w).unchanged.append (State.modAccess_unchanged _ _)).append
    (State.modAccess_unchanged _ _)).mono (by decide)

/-- The reply in an occupied window is taken by the peer table, and then closes the window (R108). -/
theorem exec_endOfFrame_reply {s : State} {rxd : Levels} {f : Frame} {i : Nat} {m : Message} {mark : Option Mark}
    (hf : HearsFrame s rxd f) (h : AwaitsReply s i m mark) (ho : s.access.occupied = true) (hr : f.Replies s m) :
    exec (.endOfFrame rxd) s = .next ((s.told f).closeWith f.kind.settles) := by
  obtain ⟨⟨hde, hears⟩, hfound⟩ := hf
  obtain ⟨b, hb, hhears⟩ := Option.map_eq_some_iff.mp hears
  have taken : s.frameHeard.takeValid f = s.told f :=
    State.takeValid_reply (s := s.frameHeard) (m := m) h ho hr
  have access : (s.told f).access.state = .awaitReply ∧ (s.told f).access.occupied = true := by
    rw [s.told_access]
    exact ⟨h.access, ho⟩
  rw [exec_endOfFrame_of_burst hde hb, State.occupyWindow_of_occupied ho, State.endBurst_heard hhears, hfound,
    State.windowClose, State.windowReply_of_replies h ho hr]
  show Host.Outcome.next ((s.frameHeard.takeValid f).accessEnded _) = _
  rw [taken, State.accessEnded, access.1]
  exact congrArg _ (if_pos access.2)

/-! ### The message is settled -/

section
variable {s : State} {i : Nat} {m : Message} {mark : Option Mark} (h : AwaitsReply s i m mark) (w : WindowResult)
include h

/-- R108: the close settles the message in flight, and nothing is in flight then. -/
theorem AwaitsReply.closeWith_eq : s.closeWith w =
    ((s.settleMessage i m mark w).clearInFlight.modAccess fun a => { a with occupied := false }).contendOrIdle := by
  rw [State.closeWith, State.closeWindow, State.settleWindow, h.inFlight]
  simp [h.slot, h.message]

theorem AwaitsReply.closeWith_outbound : (s.closeWith w).outbound = (s.settleMessage i m mark w).outbound := by
  rw [h.closeWith_eq]
  rfl

theorem AwaitsReply.closeWith_outcomes : (s.closeWith w).outcomes = (s.settleMessage i m mark w).outcomes := by
  rw [h.closeWith_eq]
  rfl

theorem AwaitsReply.closeWith_peer (a : Nat) : (s.closeWith w).peer a = (s.settleMessage i m mark w).peer a := by
  rw [h.closeWith_eq]
  rfl

theorem AwaitsReply.closeWith_slot (j : Nat) : (s.closeWith w).slot j = (s.settleMessage i m mark w).slot j :=
  State.slot_congr (h.closeWith_outbound w) j

theorem AwaitsReply.closeWith_queue (d : Nat) : (s.closeWith w).queue d = (s.settleMessage i m mark w).queue d :=
  State.queue_congr (h.closeWith_outbound w) d

theorem AwaitsReply.closeWith_owed : (s.closeWith w).owedOutcomes = (s.settleMessage i m mark w).owedOutcomes :=
  State.owedOutcomes_congr (h.closeWith_outcomes w) fun j _ => State.doneOutcome_congr (h.closeWith_slot w j)

end

theorem State.requeueRefused_moves (s : State) (i : Nat) (mark : Option Mark) : Moves s (s.requeueRefused i mark) := by
  cases mark with
  | none => exact (s.modMessage_moves i _).trans (State.modMessage_moves _ i _)
  | some k => exact (s.modMessage_moves i _).trans (State.resolve_moves _ i _)

theorem State.settleMessage_engine (s : State) (i : Nat) (m : Message) (mark : Option Mark) (w : WindowResult) :
    (s.settleMessage i m mark w).engine = s.engine := by
  cases w with
  | ack => exact (s.resolve_moves i .delivered).2.2
  | refuse => exact ((s.holdPeer m.dest).requeueRefused_moves i mark).2.2.trans (s.modPeer_engine _ _)
  | noReply => exact s.settleNoReply_engine i m mark

theorem AwaitsReply.closeWith_engine {s : State} {i : Nat} {m : Message} {mark : Option Mark}
    (h : AwaitsReply s i m mark) (w : WindowResult) :
    (s.closeWith w).engine = { s.engine with inFlight := .none } := by
  rw [h.closeWith_eq]
  show ({ (s.settleMessage i m mark w).engine with inFlight := .none } : Engine) = _
  rw [s.settleMessage_engine]

/-! ### A message refused -/

/-- A message that is not resolved owes no outcome yet (R137). -/
theorem State.doneOutcome_of_live {s : State} {i : Nat} {m : Message} (hm : (s.slot i).msg = some m) (hl : m.Live) :
    s.doneOutcome i = none := by
  refine Option.not_isSome_iff_eq_none.mp fun done => ?_
  obtain ⟨m', hm', resolved⟩ := (s.doneOutcome_isSome_iff i).mp done
  rw [hm, Option.some_inj] at hm'
  exact resolved (hm' ▸ hl)

/-- What the host is owed stands while a message is changed that is resolved neither before nor after. -/
theorem State.modMessage_owed {s : State} {i : Nat} {m : Message} (hm : (s.slot i).msg = some m) (hl : m.Live)
    {f : Message → Message} (live : (f m).Live) : (s.modMessage i f).owedOutcomes = s.owedOutcomes := by
  refine State.owedOutcomes_congr (s.modMessage_outcomes i f) fun j _ => ?_
  by_cases hji : j = i
  · rw [hji, State.doneOutcome_of_live (State.slot_modMessage_of hm f) live, State.doneOutcome_of_live hm hl]
  · exact State.doneOutcome_congr (s.slot_modMessage_other i j f hji)

/-- R110: every other slot stands. -/
theorem State.requeueRefused_slot_other (s : State) (i : Nat) (mark : Option Mark) {j : Nat} (hne : j ≠ i) :
    (s.requeueRefused i mark).slot j = s.slot j := by
  have restored := s.slot_modMessage_other i j (fun m => { m with attempts := m.attempts - 1 }) hne
  cases mark with
  | none => exact (State.slot_modMessage_other _ i j _ hne).trans restored
  | some k => exact (State.resolve_slot_other _ i _ hne).trans restored

/-- R110: an unmarked message moves in no queue. -/
theorem State.requeueRefused_queue (s : State) (i d : Nat) : (s.requeueRefused i none).queue d = s.queue d :=
  (State.queue_modMessage _ i d _).trans (s.queue_modMessage i d _)

section
variable {s : State} {i : Nat} {m : Message} (hm : (s.slot i).msg = some m) (hl : m.Live)
include hm

/-- R110: an unmarked message is QUEUED again with its attempt given back. -/
theorem State.requeueRefused_slot : (s.requeueRefused i none).slot i =
    ⟨(s.slot i).tag, some { m with attempts := m.attempts - 1, state := .queued }⟩ := by
  rw [State.requeueRefused, State.slot_modMessage_self, State.slot_modMessage_self, hm]
  rfl

include hl

theorem State.requeueRefused_owed : (s.requeueRefused i none).owedOutcomes = s.owedOutcomes :=
  (State.modMessage_owed (f := fun m => { m with state := .queued }) (State.slot_modMessage_of hm _) hl nofun).trans
    (State.modMessage_owed hm hl hl)

/-- R110, R116: a marked message is resolved with its mark, the attempt given back. -/
theorem State.requeueRefused_marked_owed (consistent : StoreConsistent s) (k : Mark) :
    (s.requeueRefused i (some k)).owedOutcomes =
      s.owedOutcomes ++ [⟨i, (s.slot i).tag, m.dest, k.result, m.attempts - 1⟩] := by
  have restored := State.slot_modMessage_of hm fun m => { m with attempts := m.attempts - 1 }
  refine (State.resolve_owed restored hl k.result (consistent.recount (· - 1) hm hl)).trans ?_
  rw [State.modMessage_owed hm hl hl, State.outcomeOf, State.slot_modMessage_self]

end

/-! ### The window closed by a reply -/

section
variable {s : State} {i : Nat} {m : Message} {mark : Option Mark} (h : AwaitsReply s i m mark)
include h

theorem AwaitsReply.delivered_peer (a : Nat) : (s.closeWith .ack).peer a = s.peer a :=
  (h.closeWith_peer .ack a).trans (State.peer_congr (s.resolve_moves i .delivered).2.1 a)

theorem AwaitsReply.delivered_slot_other {j : Nat} (hj : j ≠ i) : (s.closeWith .ack).slot j = s.slot j :=
  (h.closeWith_slot .ack j).trans (s.resolve_slot_other i .delivered hj)

/-- R109: the message leaves its queue, whatever its mark. -/
theorem AwaitsReply.delivered_queue (hs : StoreConsistent s) (d : Nat) :
    (s.closeWith .ack).queue d = (s.queue d).filter fun j => j ≠ i :=
  (h.closeWith_queue .ack d).trans (State.resolve_queue h.slot h.live .delivered hs d)

theorem AwaitsReply.delivered_owed (hs : StoreConsistent s) :
    (s.closeWith .ack).owedOutcomes = s.owedOutcomes ++ [s.outcomeOf .delivered i m] :=
  (h.closeWith_owed .ack).trans (State.resolve_owed h.slot h.live .delivered hs)

theorem AwaitsReply.refused_peers (a : Nat) : (s.closeWith .refuse).peer a = (s.holdPeer m.dest).peer a :=
  (h.closeWith_peer .refuse a).trans (State.peer_congr ((s.holdPeer m.dest).requeueRefused_moves i mark).2.1 a)

/-- R73, R110: the destination of a refused message is held. -/
theorem AwaitsReply.refused_peer (hd : 1 ≤ m.dest ∧ m.dest ≤ 30) : (s.closeWith .refuse).peer m.dest =
    { s.peer m.dest with held := true, holdTimer := .running (s.station.config.holdTime * 10) } :=
  (h.refused_peers m.dest).trans (State.peer_modPeer_self s _ _ (by omega) hd.2)

theorem AwaitsReply.refused_peer_other {a : Nat} (ha : a ≠ m.dest) : (s.closeWith .refuse).peer a = s.peer a :=
  (h.refused_peers a).trans (s.peer_modPeer_other _ a _ ha)

theorem AwaitsReply.refused_slot_other {j : Nat} (hj : j ≠ i) : (s.closeWith .refuse).slot j = s.slot j :=
  ((h.closeWith_slot .refuse j).trans (State.requeueRefused_slot_other _ i mark hj)).trans (s.modPeer_slot _ j _)

end

/-- A hold order leaves what the host is owed. -/
theorem State.holdPeer_owed (s : State) (a : Nat) : (s.holdPeer a).owedOutcomes = s.owedOutcomes :=
  State.owedOutcomes_congr (s.modPeer_outcomes a _) fun j _ => State.doneOutcome_congr (s.modPeer_slot a j _)

section
variable {s : State} {i : Nat} {m : Message} (h : AwaitsReply s i m none)
include h

theorem AwaitsReply.refused_slot : (s.closeWith .refuse).slot i =
    ⟨(s.slot i).tag, some { m with attempts := m.attempts - 1, state := .queued }⟩ := by
  rw [h.closeWith_slot, State.settleMessage, State.requeueRefused_slot (by rw [State.holdPeer, s.modPeer_slot, h.slot]),
    State.holdPeer, s.modPeer_slot]

theorem AwaitsReply.refused_queue (d : Nat) : (s.closeWith .refuse).queue d = s.queue d :=
  ((h.closeWith_queue .refuse d).trans (State.requeueRefused_queue _ i d)).trans (s.modPeer_queue _ d _)

theorem AwaitsReply.refused_owed : (s.closeWith .refuse).owedOutcomes = s.owedOutcomes :=
  ((h.closeWith_owed .refuse).trans
    (State.requeueRefused_owed ((congrArg Slot.msg (s.modPeer_slot m.dest i _)).trans h.slot) h.live)).trans
    (s.holdPeer_owed m.dest)

end

theorem AwaitsReply.refused_marked_owed {s : State} {i : Nat} {m : Message} {k : Mark} (h : AwaitsReply s i m (some k))
    (hs : StoreConsistent s) : (s.closeWith .refuse).owedOutcomes =
      s.owedOutcomes ++ [⟨i, (s.slot i).tag, m.dest, k.result, m.attempts - 1⟩] := by
  have held : ((s.holdPeer m.dest).slot i).msg = some m := (congrArg Slot.msg (s.modPeer_slot _ i _)).trans h.slot
  rw [h.closeWith_owed, State.settleMessage, State.requeueRefused_marked_owed held h.live (hs.modPeer _ _),
    State.holdPeer_owed, State.holdPeer, s.modPeer_slot]

/-! ### The obligation -/

theorem State.told_awaits {s : State} {i : Nat} {m : Message} {mark : Option Mark} (h : AwaitsReply s i m mark)
    (f : Frame) : AwaitsReply (s.told f) i m mark := (s.frameHeard.learn_files f).awaitsReply (s := s.frameHeard) h

theorem State.told_slot (s : State) (f : Frame) (j : Nat) : (s.told f).slot j = s.slot j := State.modPeer_slot _ _ _ _

theorem State.told_queue (s : State) (f : Frame) (d : Nat) : (s.told f).queue d = s.queue d :=
  State.modPeer_queue _ _ _ _

theorem State.told_owed (s : State) (f : Frame) : (s.told f).owedOutcomes = s.owedOutcomes :=
  State.owedOutcomes_congr (s.told_unchanged f .outcomes (by decide)) fun j _ =>
    State.doneOutcome_congr (s.told_slot f j)

/-- Settles O46: the peer table takes the reply, and the close of the window settles the message by its kind. -/
theorem matchingReplySettles : Obligations.MatchingReplySettles := by
  unfold Obligations.MatchingReplySettles
  refine ⟨⟨rfl, rfl, rfl⟩, fun s rxd f i m mark hf h ho hs hdest hsource hsender hseq => ?_⟩
  intro heard
  have range := State.found_source hf.2
  have ended (hk : f.kind ∈ [.ack, .refuse]) := exec_endOfFrame_reply hf h ho ⟨hk, hdest, hsource, hsender, hseq⟩
  have awaits := State.told_awaits h f
  have told := s.told_unchanged f
  have consistent : StoreConsistent (s.told f) := hs.of_unchanged told
  have engine : (s.told f).engine = s.engine := told .engine (by decide)
  have closed (w : WindowResult) := (s.told f).closeWith_unchanged w
  have counters (w : WindowResult) : ((s.told f).closeWith w).counters = s.counters.bump .framesHeard :=
    Eq.trans (closed w .counters (by decide)) (s.told_counters f)
  refine ⟨fun hk => ?_, fun hk => ?_⟩
  · rw [hk] at ended
    refine ⟨_, ended (by simp), (told.append (closed _)).mono (by decide), ?_, ?_,
      (awaits.delivered_peer _).trans (s.told_peer range),
      fun a ha => (awaits.delivered_peer a).trans (s.told_peer_other f ha), counters _, fun d => ?_,
      fun j hj => (awaits.delivered_slot_other hj).trans (s.told_slot f j), ?_⟩
    · rw [FrameKind.settles, awaits.delivered_owed consistent, s.told_owed, State.outcomeOf, s.told_slot,
        State.outcomeOf]
    · rw [awaits.closeWith_engine, engine]
    · rw [FrameKind.settles, awaits.delivered_queue consistent, s.told_queue]
    · rw [State.closeWith_access, s.told_access]
  · rw [hk] at ended
    rw [hsender] at range ⊢
    refine ⟨_, ended (by simp), (told.append (closed _)).mono (by decide), ?_, ?_,
      fun a ha => (awaits.refused_peer_other ha).trans (s.told_peer_other f (hsender ▸ ha)), counters _,
      fun j hj => (awaits.refused_slot_other hj).trans (s.told_slot f j), ?_, ?_⟩
    · rw [awaits.closeWith_engine, engine]
    · rw [FrameKind.settles, awaits.refused_peer range, s.told_station, ← hsender, s.told_peer (hsender ▸ range)]
    · rintro rfl
      refine ⟨?_, fun d => (awaits.refused_queue d).trans (s.told_queue f d),
        awaits.refused_owed.trans (s.told_owed f)⟩
      rw [FrameKind.settles, awaits.refused_slot, s.told_slot]
    · rintro k rfl
      rw [FrameKind.settles, awaits.refused_marked_owed consistent, s.told_owed, s.told_slot]

end Sys2Proof.Machine
end

/-! SUPPORT. The line win (R27): the first pending notice (R48, R100), the eligible heads (R98), the round-robin scan
(R101), the message taken (R102, R103) and the frame driven. -/

section
namespace Sys2Proof.Machine

-- One proof at a time: a thread for each that waits for the same case split can run the checker out of memory.
set_option Elab.async false

/-! ### The win and the frame driven -/

theorem exec_lineWin_elsewhere {s : State} (h : s.access.state ≠ .draw) : exec .lineWin s = .next s :=
  congrArg Host.Outcome.next (if_neg h)

/-- The state in which the draw has completed: the idle period has reached 6 + 2d ct (R26, R27). -/
def State.drawn (s : State) : State :=
  s.reportIdle (Config.accessGap + Config.backoffSlot * s.access.draw.getD 0)

theorem exec_lineWin_draw {s : State} (h : s.access.state = .draw) : exec .lineWin s = .next s.drawn.win :=
  congrArg Host.Outcome.next (if_pos h)

theorem State.drawn_unchanged (s : State) : UnchangedBut [.line] s s.drawn := s.modLine_unchanged _

@[simp] theorem State.drawn_slot (s : State) (j : Nat) : s.drawn.slot j = s.slot j := rfl
@[simp] theorem State.drawn_queue (s : State) (d : Nat) : s.drawn.queue d = s.queue d := rfl
@[simp] theorem State.drawn_peer (s : State) (a : Nat) : s.drawn.peer a = s.peer a := rfl

/-- A report of the idle period changes its length alone (R4). -/
theorem State.drawn_line (s : State) : s.drawn.line = { s.line with quiet := s.drawn.line.quiet } := by
  unfold State.drawn State.reportIdle
  rw [State.modLine_line]
  split_ifs <;> rfl

section
variable (s : State) (st : AccessState) (f : Frame)

theorem State.drive_unchanged : UnchangedBut [.line, .access] s (s.drive st f) :=
  (s.modLine_unchanged _).append (State.modAccess_unchanged _ _)

theorem State.drive_access : (s.drive st f).access =
    { s.access with state := st, frame := some f, draw := none, stuck := true } := rfl

theorem State.drive_line : (s.drive st f).line = { s.line with burst := (s.drive st f).line.burst } := rfl

@[simp] theorem State.drive_slot (j : Nat) : (s.drive st f).slot j = s.slot j := rfl
@[simp] theorem State.drive_queue (d : Nat) : (s.drive st f).queue d = s.queue d := rfl
@[simp] theorem State.drive_peer (a : Nat) : (s.drive st f).peer a = s.peer a := rfl

/-- R18: the burst is the station's own. -/
theorem State.drive_own : (s.drive st f).line.burst.map Burst.own = some true := rfl

end

/-! ### What the win sends -/

section
variable {s : State}

theorem State.pick_notice {r : Reason} (h : s.station.notices.first = some r) : s.pick = .notice r := by
  rw [State.pick, h]

theorem State.pick_nothing (h : s.station.notices.first = none) (hs : s.scan = none) : s.pick = .nothing := by
  rw [State.pick, h, hs]

theorem State.pick_scanned (h : s.station.notices.first = none) {d i : Nat} {rest : List Nat} {m : Message}
    (hs : s.scan = some d) (hq : s.queue d = i :: rest) (hm : (s.slot i).msg = some m) :
    s.pick = .message d i m := by
  simp only [State.pick, h, hs, hq, hm]

theorem State.win_notice {r : Reason} (h : s.pick = .notice r) : s.win =
    (s.modEngine fun e => { e with inFlight := .notice r }).drive .sending (s.noticeFrame r) := by
  rw [State.win, h]

theorem State.win_message {d i : Nat} {m : Message} (h : s.pick = .message d i m) :
    s.win = (s.takeMessage d i m).drive .sending (s.messageFrame (s.sequenced m)) := by
  rw [State.win, h]

theorem State.win_nothing (h : s.pick = .nothing) :
    s.win = (s.modAccess fun a => { a with state := .idle, draw := none }).applyWants := by
  rw [State.win, h]

end

/-! ### The eligible heads -/

theorem State.headQueued_iff (s : State) (d : Nat) : s.headQueued d = true ↔
    ∃ i rest m, s.queue d = i :: rest ∧ (s.slot i).msg = some m ∧ m.state = .queued := by
  unfold State.headQueued
  cases hq : s.queue d with
  | nil => simp
  | cons i rest => cases hm : (s.slot i).msg <;> simp [hm]

theorem State.eligible_iff (s : State) (d : Nat) : s.eligible d = true ↔
    (s.station.state = .active ∨ s.station.state = .leaving) ∧
      (∃ i rest m, s.queue d = i :: rest ∧ (s.slot i).msg = some m ∧ m.state = .queued) ∧
      (d = 31 ∨ (s.peer d).held = false) := by
  rw [State.eligible, Bool.and_eq_true, Bool.and_eq_true, s.headQueued_iff, s.inService_eq, and_assoc]
  simp

theorem NoticeSet.any_iff (n : NoticeSet) : n.any = true ↔ n ≠ NoticeSet.empty := by
  obtain ⟨join, beacon, hold, leave⟩ := n
  rw [← Bool.not_eq_false, Ne, not_iff_not]
  simp [NoticeSet.any, NoticeSet.empty, and_assoc]

theorem State.wantsLine_iff (s : State) : s.wantsLine = true ↔
    s.station.notices ≠ NoticeSet.empty ∨ ∃ d, 1 ≤ d ∧ d ≤ 31 ∧ s.eligible d = true := by
  rw [State.wantsLine, Bool.or_eq_true, NoticeSet.any_iff, List.any_eq_true]
  simp only [mem_destinations, and_assoc]

/-! ### The round-robin scan -/

/-- The place of destination `d` in the scan after `last` (R101): 0 for the one after last served. -/
def scanPlace (last d : Nat) : Nat := (d + 30 - last) % 31

theorem scanOrder_eq (last : Nat) : scanOrder last = (List.range 31).map fun k => (last + k) % 31 + 1 := rfl

theorem mem_destinations_of_mem_scanOrder {last d : Nat} (h : d ∈ scanOrder last) : d ∈ destinations := by
  obtain ⟨k, -, rfl⟩ := List.mem_map.mp (scanOrder_eq last ▸ h)
  rw [mem_destinations]
  omega

theorem State.scan_none {s : State} (h : ∀ d ∈ destinations, s.eligible d = false) : s.scan = none :=
  List.find?_eq_none.mpr fun d hd => by simp [h d (mem_destinations_of_mem_scanOrder hd)]

/-- R101: the scan names the eligible destination that comes first after last served. -/
theorem State.scan_first {s : State} {d : Nat} (hl : s.engine.lastServed ≤ 31) (hd : d ∈ destinations)
    (he : s.eligible d = true) (first : ∀ e ∈ destinations, s.eligible e = true →
      scanPlace s.engine.lastServed d ≤ scanPlace s.engine.lastServed e) : s.scan = some d := by
  obtain ⟨low, high⟩ := (mem_destinations d).mp hd
  unfold scanPlace at first
  have there : (s.engine.lastServed + (d + 30 - s.engine.lastServed) % 31) % 31 + 1 = d := by omega
  have found : ((List.range 31).find? fun k => s.eligible ((s.engine.lastServed + k) % 31 + 1)) =
      some ((d + 30 - s.engine.lastServed) % 31) := by
    refine List.find?_range_eq_some.mpr ⟨by rwa [there], List.mem_range.mpr (by omega), fun k hk => ?_⟩
    rw [Bool.not_eq_true', Bool.eq_false_iff]
    intro earlier
    have := first _ ((mem_destinations _).mpr (by omega)) earlier
    omega
  rw [State.scan, scanOrder_eq, List.find?_map]
  exact (congrArg _ found).trans (congrArg some there)

/-! ### The message taken -/

/-- R103: an ACKED message takes a sequence if it has none. -/
theorem State.sequenced_eq (s : State) (m : Message) : s.sequenced m = { m with
    seq := if m.cls = .acked ∧ m.seq = none then some (s.peer m.dest).nextTx else m.seq } := by
  unfold State.sequenced
  split_ifs <;> rfl

/-- R7, R8: the frame of a message. -/
theorem State.messageFrame_eq (s : State) (m : Message) : s.messageFrame m =
    ⟨m.cls.frameKind, m.dest, s.inbound.h, s.station.address, s.station.epoch,
      if m.cls = .acked then m.seq.getD 0 else 0, m.payload⟩ := by
  unfold State.messageFrame
  cases m.cls <;> rfl

section
variable (s : State) (m : Message)

theorem State.advanceTx_slot (j : Nat) : (s.advanceTx m).slot j = s.slot j :=
  State.slot_congr (s.advanceTx_unchanged m .outbound (by decide)) j

theorem State.advanceTx_queue (e : Nat) : (s.advanceTx m).queue e = s.queue e :=
  State.queue_congr (s.advanceTx_unchanged m .outbound (by decide)) e

theorem State.advanceTx_peer_other {a : Nat} (ha : a ≠ m.dest) : (s.advanceTx m).peer a = s.peer a := by
  unfold State.advanceTx
  split_ifs
  exacts [s.peer_modPeer_other _ a _ ha, rfl]

/-- R75: the next tx sequence advances when the message takes it; only a DATAGRAM has a destination without a record. -/
theorem State.advanceTx_peer (hd : 1 ≤ m.dest) (hc : m.cls = .datagram ∨ m.dest ≤ 30) :
    (s.advanceTx m).peer m.dest =
      if m.cls = .acked ∧ m.seq = none then
        { s.peer m.dest with nextTx := ((s.peer m.dest).nextTx + 1) % 256 }
      else s.peer m.dest := by
  unfold State.advanceTx
  split_ifs with takes
  · have high : m.dest ≤ 30 := hc.resolve_left (by simp [takes.1])
    exact s.peer_modPeer_self m.dest _ (by omega) high
  · rfl

variable (d i : Nat)

theorem State.takeMessage_unchanged : UnchangedBut [.peers, .outbound, .engine] s (s.takeMessage d i m) :=
  ((s.advanceTx_unchanged m).append (State.modOutbound_unchanged _ _)).append (State.modEngine_unchanged _ _)

theorem State.takeMessage_peer (a : Nat) : (s.takeMessage d i m).peer a = (s.advanceTx m).peer a := rfl

theorem State.takeMessage_queue (e : Nat) : (s.takeMessage d i m).queue e = s.queue e := s.advanceTx_queue m e

theorem State.takeMessage_slot_other {j : Nat} (hj : j ≠ i) : (s.takeMessage d i m).slot j = s.slot j :=
  ((s.advanceTx m).slot_setSlot_other i j _ hj).trans (s.advanceTx_slot m j)

/-- R102: the message taken is ON_LINE. -/
theorem State.takeMessage_slot (hi : i < 48) : (s.takeMessage d i m).slot i =
    ⟨(s.slot i).tag, some { s.sequenced m with state := .onLine none }⟩ :=
  (s.advanceTx m).slot_setSlot_self i _ hi

end

/-! ### The obligations -/

/-- Settles O26: the first pending notice is picked and driven; with nothing to pick R22 finds nothing wanted. -/
theorem winSendsNotice : Obligations.WinSendsNotice := by
  unfold Obligations.WinSendsNotice
  refine ⟨fun s => exec_lineWin_elsewhere, fun s hs => ⟨fun r pending => ?_, fun empty ineligible => ?_⟩⟩
  · have first : s.station.notices.first = some r := by
      unfold NoticeSet.first
      rcases pending with ⟨rfl, leave⟩ | ⟨rfl, leave, join⟩ | ⟨rfl, leave, join, hold⟩ | ⟨rfl, beacon⟩
      · simp [leave]
      · simp [leave, join]
      · simp [leave, join, hold]
      · simp [beacon]
    have won := State.win_notice (State.pick_notice (s := s.drawn) first)
    rw [exec_lineWin_draw hs, won]
    refine ⟨_, rfl, ?_, rfl, State.drive_access _ _ _, rfl, ?_, State.drive_own _ _ _⟩
    · exact ((s.drawn_unchanged.append (State.modEngine_unchanged _ _)).append (State.drive_unchanged _ _ _)).mono
        (by decide)
    · rw [State.drive_line, State.modEngine_line, s.drawn_line]
  · have unwanted : s.wantsLine = false := by
      rw [Bool.eq_false_iff, Ne, s.wantsLine_iff]
      rintro (pending | ⟨d, low, high, eligible⟩)
      · exact pending empty
      · exact Bool.false_ne_true ((ineligible d ((mem_destinations d).mpr ⟨low, high⟩)).symm.trans eligible)
    have picked : s.drawn.pick = .nothing :=
      State.pick_nothing (congrArg NoticeSet.first empty) (State.scan_none (s := s.drawn) ineligible)
    have rests : s.drawn.win = s.drawn.modAccess fun a => { a with state := .idle, draw := none } := by
      rw [State.win_nothing picked]
      exact if_neg fun ⟨_, wants⟩ => Bool.false_ne_true (unwanted.symm.trans wants)
    rw [exec_lineWin_draw hs, rests]
    refine ⟨_, rfl, (s.drawn_unchanged.append (State.modAccess_unchanged _ _)).mono (by decide), rfl, rfl, ?_⟩
    rw [State.modAccess_line, s.drawn_line]

/-- Settles O27: the scan names the destination, and the message at the head of its queue is taken and driven. -/
theorem winSendsNextHead : Obligations.WinSendsNextHead := by
  unfold Obligations.WinSendsNextHead
  refine ⟨rfl, State.eligible_iff, State.wantsLine_iff, ?_⟩
  intro s d i rest m hs empty hl hd he first hq hm hdest hc takes seq
  have scanned : s.drawn.scan = some d := State.scan_first (s := s.drawn) hl hd he first
  have picked : s.drawn.pick = .message d i m :=
    State.pick_scanned (congrArg NoticeSet.first empty) scanned hq hm
  have sequenced : s.drawn.sequenced m = { m with seq := seq } := by
    rw [State.sequenced_eq, hdest]
    rfl
  subst hdest
  obtain ⟨low, -⟩ := (mem_destinations m.dest).mp hd
  rw [exec_lineWin_draw hs, State.win_message picked, sequenced]
  refine ⟨_, rfl, ?_, rfl, ?_, ?_, ?_, ?_, ?_, ?_, rfl, ?_, State.drive_own _ _ _⟩
  · exact ((s.drawn_unchanged.append (s.drawn.takeMessage_unchanged m m.dest i)).append
      (State.drive_unchanged _ _ _)).mono (by decide)
  · rw [State.drive_slot, s.drawn.takeMessage_slot m m.dest i (s.slot_lt i m hm), sequenced, s.drawn_slot]
  · intro j hj
    rw [State.drive_slot, s.drawn.takeMessage_slot_other m m.dest i hj, s.drawn_slot]
  · intro e
    rw [State.drive_queue, s.drawn.takeMessage_queue, s.drawn_queue]
  · intro a ha
    rw [State.drive_peer, State.takeMessage_peer, s.drawn.advanceTx_peer_other m ha, s.drawn_peer]
  · rw [State.drive_peer, State.takeMessage_peer, s.drawn.advanceTx_peer m low hc, s.drawn_peer]
  · rw [State.drive_access, State.messageFrame_eq, s.drawn.takeMessage_unchanged m m.dest i .access (by decide)]
    rfl
  · have line : (s.drawn.takeMessage m.dest i m).line = s.drawn.line :=
      s.drawn.takeMessage_unchanged m m.dest i .line (by decide)
    rw [State.drive_line, line, s.drawn_line]

end Sys2Proof.Machine
end

/-! SUPPORT. The tick of the 1 ms timebase: the timers that are due, and their expiry commands (R44, R49, R50, R66, R72,
R113). -/

section
namespace Sys2Proof.Machine

-- One proof at a time: a thread for each that waits for the same case split can run the checker out of memory.
set_option Elab.async false

/-! ### Timers that are due -/

theorem Timer.due_iff (t : Timer) : t.due = true ↔ t = .running 0 := by
  rcases t with _ | (_ | left) | _
  · exact ⟨nofun, nofun⟩
  · exact ⟨fun _ => rfl, fun _ => rfl⟩
  · exact ⟨nofun, nofun⟩
  · exact ⟨nofun, nofun⟩

theorem Slot.retryDue_iff (x : Slot) : x.retryDue = true ↔ ∃ m, x.msg = some m ∧ m.state = .retryWait 0 := by
  unfold Slot.retryDue
  cases x.msg <;> simp

/-! ### The commands due -/

/-- One expiry command for each address or slot whose timer is due. -/
def expiriesOf (command : Nat → Instr) (due : Nat → Bool) (l : List Nat) : List Instr := (l.filter due).map command

theorem mem_expiriesOf {command : Nat → Instr} {due : Nat → Bool} {l : List Nat} {c : Instr} :
    c ∈ expiriesOf command due l ↔ ∃ a ∈ l, c = command a ∧ due a = true := by
  simp only [expiriesOf, List.mem_map, List.mem_filter, and_assoc]
  exact exists_congr fun a => and_congr_right fun _ => and_comm.trans (and_congr_left fun _ => eq_comm)

theorem nodup_expiriesOf {command : Nat → Instr} (inj : Function.Injective command) (due : Nat → Bool) {l : List Nat}
    (h : l.Nodup) : (expiriesOf command due l).Nodup := (h.filter due).map inj

/-- One expiry command if the timer of the station is due. -/
def expiryOf (command : Instr) (t : Timer) : List Instr := if t.due then [command] else []

theorem mem_expiryOf {command c : Instr} {t : Timer} : c ∈ expiryOf command t ↔ c = command ∧ t = .running 0 := by
  rw [← t.due_iff, expiryOf]
  split_ifs with h <;> simp [h]

theorem nodup_expiryOf (command : Instr) (t : Timer) : (expiryOf command t).Nodup := by
  unfold expiryOf
  split_ifs <;> simp

theorem expiryOf_disjoint {c c' : Instr} (h : c ≠ c') (t t' : Timer) : (expiryOf c t).Disjoint (expiryOf c' t') :=
  fun _ hx hx' => h ((mem_expiryOf.mp hx).1.symm.trans (mem_expiryOf.mp hx').1)

theorem expiryOf_disjoint_expiriesOf {c : Instr} {command : Nat → Instr} (h : ∀ a, c ≠ command a) (t : Timer)
    (due : Nat → Bool) (l : List Nat) : (expiryOf c t).Disjoint (expiriesOf command due l) := by
  intro x hx hx'
  obtain ⟨a, -, ha, -⟩ := mem_expiriesOf.mp hx'
  exact h a ((mem_expiryOf.mp hx).1.symm.trans ha)

theorem expiriesOf_disjoint {command command' : Nat → Instr} (h : ∀ a b, command a ≠ command' b)
    (due due' : Nat → Bool) (l l' : List Nat) : (expiriesOf command due l).Disjoint (expiriesOf command' due' l') := by
  intro x hx hx'
  obtain ⟨a, -, ha, -⟩ := mem_expiriesOf.mp hx
  obtain ⟨b, -, hb, -⟩ := mem_expiriesOf.mp hx'
  exact h a b (ha.symm.trans hb)

theorem State.dueCommands_eq (s : State) : s.dueCommands =
    [expiryOf (.joinListenExpiry 0) s.station.listen, expiryOf (.beaconTimerExpiry 0) s.station.beacon,
      expiryOf (.holdRenewalExpiry 0) s.station.renewal,
      expiriesOf (fun a => .presenceTimeout a 0) (fun a => (s.peer a).presenceTimer.due) (List.range' 1 30),
      expiriesOf (fun a => .holdTimerExpiry a 0) (fun a => (s.peer a).holdTimer.due) (List.range' 1 30),
      expiriesOf (fun i => .retryTimerExpiry i 0) (fun i => (s.slot i).retryDue) (List.range 48)].flatten := rfl

theorem State.mem_dueCommands (s : State) (c : Instr) : c ∈ s.dueCommands ↔
    (c = .joinListenExpiry 0 ∧ s.station.listen = .running 0) ∨
    (c = .beaconTimerExpiry 0 ∧ s.station.beacon = .running 0) ∨
    (c = .holdRenewalExpiry 0 ∧ s.station.renewal = .running 0) ∨
    (∃ a, 1 ≤ a ∧ a ≤ 30 ∧ c = .presenceTimeout a 0 ∧ (s.peer a).presenceTimer = .running 0) ∨
    (∃ a, 1 ≤ a ∧ a ≤ 30 ∧ c = .holdTimerExpiry a 0 ∧ (s.peer a).holdTimer = .running 0) ∨
    (∃ i m, i < 48 ∧ c = .retryTimerExpiry i 0 ∧ (s.slot i).msg = some m ∧ m.state = .retryWait 0) := by
  have peers (a : Nat) : a ∈ List.range' 1 30 ↔ 1 ≤ a ∧ a ≤ 30 := by
    rw [List.mem_range'_1]
    omega
  simp only [State.dueCommands_eq, List.flatten_cons, List.flatten_nil, List.append_nil, List.mem_append, mem_expiryOf,
    mem_expiriesOf, Timer.due_iff, Slot.retryDue_iff, peers, List.mem_range, and_assoc, exists_and_left]

/-- Each due timer has one command: the six lists share none, since each has a row of its own. -/
theorem State.nodup_dueCommands (s : State) : s.dueCommands.Nodup := by
  rw [State.dueCommands_eq, List.nodup_flatten]
  constructor
  · intro l hl
    simp only [List.mem_cons, List.not_mem_nil, or_false] at hl
    rcases hl with rfl | rfl | rfl | rfl | rfl | rfl
    · exact nodup_expiryOf _ _
    · exact nodup_expiryOf _ _
    · exact nodup_expiryOf _ _
    · exact nodup_expiriesOf (fun a b h => (Instr.presenceTimeout.inj h).1) _ List.nodup_range'
    · exact nodup_expiriesOf (fun a b h => (Instr.holdTimerExpiry.inj h).1) _ List.nodup_range'
    · exact nodup_expiriesOf (fun a b h => (Instr.retryTimerExpiry.inj h).1) _ List.nodup_range
  · simp [expiryOf_disjoint, expiryOf_disjoint_expiriesOf, expiriesOf_disjoint]

/-! ### The tick -/

theorem State.elapse_unchanged (s : State) (ms : Nat) :
    UnchangedBut [.station, .peers, .outbound, .ticks] s (s.elapse ms) := by
  intro b hb
  cases b
  case station | peers | outbound | ticks => exact absurd (by decide) hb
  all_goals rfl

/-- Settles O3: time by the count-downs, the commands due by their lists, and the tick by its free order. -/
theorem emptyQueueTicks : Obligations.EmptyQueueTicks := by
  unfold Obligations.EmptyQueueTicks
  refine ⟨fun s ms => ?_, fun s => ⟨s.nodup_dueCommands, s.mem_dueCommands⟩, fun s empty => ?_⟩
  · exact ⟨rfl, rfl, s.elapse_peer ms, s.elapse_slot ms, s.elapse_queue ms, s.elapse_unchanged ms⟩
  · have ticks : step s = .next s.tick := by rw [step, empty]
    refine ⟨_, ticks, rfl, rfl, s.elapse_peer 1, s.elapse_slot 1, s.elapse_queue 1, ?_,
      ((s.elapse_unchanged 1).append (State.pending_unchanged _ _)).mono (by decide)⟩
    show (s.pending ++ arrange (Config.tickRank s.ticks) (s.elapse 1).dueCommands).Perm (s.elapse 1).dueCommands
    rw [empty]
    exact arrange_perm _ _

end Sys2Proof.Machine
end

/-! SUPPORT. The fill of the inbound store (R40, R118, R126, R129), the counts (R29, R143) and the characters of a burst
(R5): one relation says that a change keeps all three invariants, one lemma per operation that it is such a change. -/

section
namespace Sys2Proof.Machine

-- One proof at a time: a thread for each that waits for the same case split can run the checker out of memory.
set_option Elab.async false

/-! ### Counters -/

theorem Counters.bounded_iff (c : Counters) : c.Bounded ↔ ∀ k, c.value k ≤ Config.counterMax := by
  refine ⟨fun ⟨_, _, _, _, _, _, _, _, _, _, _⟩ k => by cases k <;> assumption, fun h => ?_⟩
  exact ⟨h .framesSent, h .framesHeard, h .crcErrors, h .framingErrors, h .malformed, h .collisions, h .duplicates,
    h .refusalsSent, h .droppedDatagrams, h .strayReplies, h .addressConflicts⟩

theorem Counters.zero_bounded : Counters.zero.Bounded := by decide

/-- R143: a counter is increased alone. -/
theorem Counters.value_bump (c : Counters) (k j : CounterName) :
    (c.bump k).value j = if j = k then saturatingInc (c.value j) else c.value j := by
  cases k <;> cases j <;> rfl

theorem saturatingInc_le {n : Nat} (h : n ≤ Config.counterMax) : saturatingInc n ≤ Config.counterMax := by
  unfold saturatingInc
  split_ifs <;> omega

theorem Counters.Bounded.bump {c : Counters} (h : c.Bounded) (k : CounterName) : (c.bump k).Bounded := by
  rw [Counters.bounded_iff] at h ⊢
  intro j
  rw [Counters.value_bump]
  split_ifs
  exacts [saturatingInc_le (h j), h j]

/-! ### Lines -/

theorem Line.Counted.hearAll {l : Line} (h : l.Counted) (rxd : Levels) : (l.hearAll rxd).Counted :=
  l.hearAll_keeps Line.Counted Line.hear_counted rxd h

theorem Line.Counted.compare {l : Line} (h : l.Counted) (bytes : List Byte) (rxd : Levels) :
    (l.compare bytes rxd).1.Counted :=
  Line.compare_keeps Line.Counted Line.hear_counted bytes l rxd h

theorem Line.Counted.released {l : Line} (h : l.Counted) : l.released.Counted := by
  rcases l.released_cases with same | ⟨-, lost⟩
  · rwa [same]
  · rw [lost]
    nofun

/-- After the end of a burst there is none. -/
theorem Line.ended_counted : Line.ended.Counted := nofun

/-- A burst that begins has no characters. -/
theorem Line.Counted.begin {l : Line} (h : l.Counted) {b : Burst} (bytes : b.bytes = []) (count : b.count = 0)
    (rxd : Levels) : (l.begin b rxd).Counted := by
  rcases l.underWay_or_ended with ⟨hb, ho⟩ | ended
  · rw [Line.begin_of_burst hb ho]
    exact h.hearAll _
  · rw [Line.begin_of_no_burst ended]
    refine Line.Counted.hearAll (fun b' hb' => ?_) _
    obtain rfl := Option.some.inj hb'
    rw [bytes, count]
    rfl

/-- What a burst is, own or ignored, is no matter of its characters. -/
theorem Line.Counted.map_burst {l : Line} (h : l.Counted) (f : Burst → Burst) (bytes : ∀ b, (f b).bytes = b.bytes)
    (count : ∀ b, (f b).count = b.count) : Line.Counted { l with burst := l.burst.map f } := by
  intro b hb
  obtain ⟨a, ha, rfl⟩ := Option.map_eq_some_iff.mp hb
  rw [bytes, count]
  exact h a ha

/-- An own frame joins the burst under way, or begins one without characters (R18). -/
theorem Line.Counted.drive {l : Line} (h : l.Counted) : Line.Counted
    { l with burst := some { l.burst.getD ⟨true, false, [], 0, false⟩ with own := true } } := by
  intro b hb
  obtain rfl := Option.some.inj hb
  cases hl : l.burst with
  | none => rfl
  | some a => exact h a hl

/-! ### Levels -/

/-- Table 3-3: the levels of a record in its ranges. -/
theorem ConfigRecord.levels_of_inRange {c : ConfigRecord} (h : c.inRange = true) :
    1 ≤ c.holdLevel ∧ c.resumeLevel < c.holdLevel := by
  simp only [ConfigRecord.inRange, Bool.and_eq_true, decide_eq_true_eq] at h
  obtain ⟨⟨-, low, -⟩, resume⟩ := h
  exact ⟨low, resume⟩

/-- R125: what a value of H must be for the fill, with the records as they stand. -/
theorem State.setH_holdFollowsFill {s : State} {h : Bool} (range : s.station.config.inRange = true)
    (room : s.inbound.records.length ≤ Config.inboundRoom)
    (full : s.station.config.holdLevel ≤ s.inbound.records.length → h = true)
    (low : s.inbound.records.length ≤ s.station.config.resumeLevel → h = false) : HoldFollowsFill (s.setH h) := by
  have set := s.setH_controls h
  rw [HoldFollowsFill, set.config, set.records, State.setH_h]
  exact ⟨range, room, full, low⟩

/-- R40: H re-evaluated follows the fill under any record in its ranges. -/
theorem State.setH_holdAt {s : State} (range : s.station.config.inRange = true)
    (room : s.inbound.records.length ≤ Config.inboundRoom) (h : Bool) :
    HoldFollowsFill (s.setH (holdAt s.station.config s.inbound.records.length h)) := by
  obtain ⟨-, resume⟩ := ConfigRecord.levels_of_inRange range
  refine State.setH_holdFollowsFill range room (fun full => if_pos full) fun low => ?_
  rw [holdAt, if_neg (by omega), if_pos low]

/-- R126: one record more. -/
theorem HoldFollowsFill.append {s u : State} (h : HoldFollowsFill s) (config : u.station.config = s.station.config)
    (hold : u.inbound.h = s.inbound.h) (count : u.inbound.records.length = s.inbound.records.length + 1)
    (room : s.inbound.records.length < Config.inboundRoom) : HoldFollowsFill u.applyHoldLevel := by
  obtain ⟨range, -, -, low⟩ := h
  obtain ⟨-, resume⟩ := ConfigRecord.levels_of_inRange range
  refine State.setH_holdFollowsFill (config ▸ range) (by omega) (fun full => if_pos full) fun few => ?_
  rw [config, count] at few
  rw [holdAfterAppend, config, count, if_neg (by omega), hold, low (by omega)]

/-- R129: one record less. -/
theorem HoldFollowsFill.fetch {s u : State} (h : HoldFollowsFill s) (config : u.station.config = s.station.config)
    (count : u.inbound.records.length + 1 = s.inbound.records.length) :
    HoldFollowsFill (u.setH (holdAfterFetch s.station.config u.inbound.records.length s.inbound.h)) := by
  obtain ⟨range, room, full, -⟩ := h
  obtain ⟨-, resume⟩ := ConfigRecord.levels_of_inRange range
  refine State.setH_holdFollowsFill (config ▸ range) (by omega) (fun many => ?_) fun few => ?_
  · rw [config] at many
    rw [holdAfterFetch, if_neg (by omega), full (by omega)]
  · exact if_pos (config ▸ few)

/-! ### The relation -/

/-- The change keeps the fill of the store, the counts and the characters of the burst, each by itself. -/
structure KeepsBounds (s t : State) : Prop where
  fill : HoldFollowsFill s → HoldFollowsFill t
  counts : CountsBounded s → CountsBounded t
  burst : BurstCounted s → BurstCounted t

namespace KeepsBounds

theorem refl (s : State) : KeepsBounds s s := ⟨id, id, id⟩

theorem trans {s t u : State} (h : KeepsBounds s t) (k : KeepsBounds t u) : KeepsBounds s u :=
  ⟨k.fill ∘ h.fill, k.counts ∘ h.counts, k.burst ∘ h.burst⟩

/-- An operation performed on a condition, else nothing. -/
theorem ite {p : Prop} [Decidable p] {s t : State} (h : p → KeepsBounds s t) : KeepsBounds s (if p then t else s) :=
  ite_keeps (refl s) h

/-- What the three invariants are read from stands, or the collision count falls. -/
theorem apart {s t : State} (line : t.line = s.line) (inbound : t.inbound = s.inbound)
    (config : t.station.config = s.station.config) (counters : t.counters = s.counters)
    (n : t.access.n ≤ s.access.n) : KeepsBounds s t where
  fill h := by rwa [HoldFollowsFill, config, inbound]
  counts h := by
    obtain ⟨limit, bounded⟩ := h
    exact ⟨n.trans limit, counters ▸ bounded⟩
  burst h := by rwa [BurstCounted, line]

theorem of_unchanged {changed : List Block} {s t : State} (h : UnchangedBut changed s t) (line : .line ∉ changed)
    (inbound : .inbound ∉ changed) (counters : .counters ∉ changed)
    (config : t.station.config = s.station.config) (n : t.access.n ≤ s.access.n) : KeepsBounds s t :=
  apart (h .line line) (h .inbound inbound) config (h .counters counters) n

theorem settles {s t : State} (h : Settles s t) : KeepsBounds s t :=
  apart h.line h.inbound h.station_config h.counters (by rw [h.access])

theorem modAccess (s : State) (f : Access → Access) (n : (f s.access).n ≤ s.access.n := by exact Nat.le_refl _) :
    KeepsBounds s (s.modAccess f) := apart rfl rfl rfl rfl n

theorem modStation (s : State) (f : Station → Station)
    (config : (f s.station).config = s.station.config := by rfl) : KeepsBounds s (s.modStation f) :=
  apart rfl rfl config rfl le_rfl

theorem modLine (s : State) (f : Line → Line) (counted : s.line.Counted → (f s.line).Counted) :
    KeepsBounds s (s.modLine f) := ⟨id, id, counted⟩

theorem count (s : State) (k : CounterName) : KeepsBounds s (s.count k) :=
  ⟨id, fun ⟨limit, bounded⟩ => ⟨limit, bounded.bump k⟩, id⟩

/-- R29: the collision count grows below the limit only. -/
theorem collision {s : State} (h : s.access.n < Config.collisionLimit) :
    KeepsBounds s (s.modAccess fun a => { a with n := a.n + 1 }) :=
  ⟨id, fun ⟨_, bounded⟩ => ⟨h, bounded⟩, id⟩

/-- A change of records and H that keeps the fill by itself. -/
theorem setH {s u : State} {h : Bool} (same : UnchangedBut [.station, .peers, .inbound] s u)
    (fill : HoldFollowsFill s → HoldFollowsFill (u.setH h)) : KeepsBounds s (u.setH h) := by
  have set := (same.append (u.setH_unchanged h)).mono (more := [.station, .peers, .inbound]) (by decide)
  refine ⟨fill, fun counts => ?_, fun burst => ?_⟩
  · rwa [CountsBounded, (set .access (by decide) : _ = _), (set .counters (by decide) : _ = _)]
  · rwa [BurstCounted, (set .line (by decide) : _ = _)]

theorem applyWants (s : State) : KeepsBounds s s.applyWants := by
  rw [State.applyWants_eq]
  exact modAccess s _ le_rfl

/-- R22 after a change. -/
theorem thenWants {s t : State} (h : KeepsBounds s t) : KeepsBounds s t.applyWants := h.trans (applyWants t)

/-! ### Windows, OFF and UNJOINED -/

theorem closeWindow (s : State) (w : WindowResult) : KeepsBounds s (s.closeWindow w) :=
  (settles (s.settleWindow_settles w)).trans (modAccess _ _)

theorem contendOrIdle (s : State) : KeepsBounds s s.contendOrIdle := modAccess s _ le_rfl

theorem closeWith (s : State) (w : WindowResult) : KeepsBounds s (s.closeWith w) :=
  (closeWindow s w).trans (contendOrIdle _)

theorem closeOpenWindow (s : State) : KeepsBounds s s.closeOpenWindow := ite fun _ => closeWindow s _

/-- R21: entering OFF, the collision count is cleared. -/
theorem enterOff (s : State) : KeepsBounds s s.enterOff := by
  unfold State.enterOff
  exact (closeOpenWindow s).trans (modAccess _ _ (Nat.zero_le _))

theorem leaveOff (s : State) : KeepsBounds s s.leaveOff := (modAccess s _ (Nat.zero_le _)).thenWants

theorem enterUnjoined (s : State) : KeepsBounds s s.enterUnjoined :=
  ((modStation s Station.unjoin).trans (settles (State.modPeers_settles _ _))).trans (enterOff _)

/-- An entry to UNJOINED that sets the state-change flag (R57). -/
theorem unjoinFlagged (s : State) : KeepsBounds s s.enterUnjoined.flagChange :=
  (enterUnjoined s).trans (modStation _ _)

theorem lineFault (s : State) (reason : FaultReason) : KeepsBounds s (s.lineFault reason) := by
  have blamed := (closeOpenWindow s).trans (modStation s.closeOpenWindow fun st => { st with faultReason := reason })
  unfold State.lineFault
  split
  · exact (blamed.trans (modStation _ _)).trans (enterOff _)
  · exact blamed.trans (unjoinFlagged _)
  · exact (blamed.trans (settles (State.abandonAll_settles _))).trans (unjoinFlagged _)
  · exact refl s
  · exact refl s

/-! ### Resets -/

/-- R19, R20, R59, R60: everything starts anew, with a record in its ranges. -/
theorem resetWith {s : State} {config : ConfigRecord}
    (range : s.station.config.inRange = true → config.inRange = true) (reply : Option Reply) (straps : BitVec 5)
    (rxdMark : Bool) : KeepsBounds s (s.resetWith config reply straps rxdMark) where
  fill h := by
    obtain ⟨inRange, -⟩ := h
    obtain ⟨low, -⟩ := ConfigRecord.levels_of_inRange (range inRange)
    exact ⟨range inRange, Nat.zero_le _, fun full => absurd (low.trans full) (Nat.not_succ_le_zero 0), fun _ => rfl⟩
  counts _ := ⟨Nat.zero_le _, Counters.zero_bounded⟩
  burst _ b hb := by
    rw [Line.reset_burst_ignored hb]
    rfl

/-! ### Requests -/

/-- R2: an abandoned character has not joined the burst. -/
theorem changeRate (s : State) (rate : Nat) : KeepsBounds s (s.changeRate rate) := by
  unfold State.changeRate
  split_ifs
  exacts [refl s, modLine s _ id]

theorem configure (a b c d e f g m : Byte) (s : State) :
    KeepsBounds s (answerConfigure a b c d e f g m s).state := by
  unfold answerConfigure
  dsimp only
  split_ifs with _ accepted
  · exact refl s
  · rw [Bool.and_eq_true] at accepted
    obtain ⟨range, -⟩ := accepted
    generalize configOf a b c d e f g m = record at range ⊢
    have rated := s.changeRate_unchanged record.rate
    have inbound : (s.changeRate record.rate).inbound = s.inbound := rated .inbound (by decide)
    refine (changeRate s record.rate).trans
      (setH ((State.modStation_unchanged _ _).mono (by decide)) fun ⟨_, room, _⟩ => ?_)
    rw [← inbound]
    exact State.setH_holdAt (s := (s.changeRate record.rate).modStation fun st => { st with config := record })
      range room _
  · exact refl s

/-- R42: the burst under way is ignored from here on. -/
theorem join (s : State) : KeepsBounds s (answerJoin s).state := by
  have drawn : KeepsBounds s
      ((s.takeRandom.modPeers fun _ => Vector.replicate 30 PeerRecord.initial).modStation fun st =>
        st.joining (epochOf s.station.prevEpoch s.nextRandom)) := apart rfl rfl rfl rfl le_rfl
  have cleared : KeepsBounds s s.joinCleared :=
    drawn.trans (modLine _ _ fun h => h.map_burst _ (fun _ => rfl) fun _ => rfl)
  unfold answerJoin
  split_ifs
  exacts [refl s, refl s, cleared.trans (leaveOff _)]

theorem leave (mode : Byte) (s : State) : KeepsBounds s (answerLeave mode s).state := by
  unfold answerLeave
  split
  · exact refl s
  split
  · exact refl s
  · unfold State.leaveJoining
    dsimp only
    split_ifs
    exacts [modStation s _, enterUnjoined s]
  · next m _ _ _ =>
    have leaving : KeepsBounds s (s.leaving m) := apart rfl rfl rfl rfl le_rfl
    refine thenWants (trans ?_ (settles (State.watchQueues_settles _)))
    cases m with
    | drain => exact leaving
    | abandon => exact leaving.trans (settles (State.abandonAll_settles _))
  · have changed := modStation s fun st => { st with leaveMode := some .abandon }
    exact ite fun _ => (changed.trans (settles (State.abandonAll_settles _))).thenWants
  · exact (settles s.abandonAll_settles).trans (enterUnjoined _)

theorem post (dest cls length : Byte) (payload : List Byte) (s : State) :
    KeepsBounds s (answerPost dest cls length payload s).state := by
  unfold answerPost
  split
  · exact refl s
  split
  · exact refl s
  split
  · exact refl s
  · exact (settles ((s.setSlot_settles _ _).trans (State.modQueue_settles _ _ _))).thenWants

theorem cancel (slot tag : Byte) (s : State) : KeepsBounds s (answerCancel slot tag s).state := by
  have resolved := (settles (s.resolve_settles slot.toNat .cancelled)).thenWants
  have marked := settles (State.setMark_settles .cancelled s slot.toNat)
  unfold answerCancel
  split
  · exact refl s
  split
  exacts [refl s, resolved, resolved, marked, marked]

theorem fetch (s : State) : KeepsBounds s (answerFetch s).state := by
  unfold answerFetch
  split
  · exact refl s
  · next r rest records =>
    refine thenWants (setH ((s.modInbound_unchanged _).mono (by decide)) fun h => ?_)
    exact h.fetch (u := s.modInbound fun b => { b with records := rest }) rfl (by rw [records]; rfl)

theorem takeOutcomes (max : Byte) (s : State) : KeepsBounds s (answerTakeOutcomes max s).state := by
  unfold answerTakeOutcomes
  split_ifs
  · exact refl s
  · exact refl s
  · exact settles ((s.modOutcomes_settles _).trans (State.refill_settles _))

theorem readCounters (clear : Byte) (s : State) : KeepsBounds s (answerReadCounters clear s).state := by
  unfold answerReadCounters
  split_ifs
  · exact refl s
  · exact ⟨id, fun ⟨limit, _⟩ => ⟨limit, Counters.zero_bounded⟩, id⟩
  · exact refl s

/-! ### Heard frames -/

theorem beginActivity (s : State) (rxd : Levels) : KeepsBounds s (s.beginActivity rxd) := by
  have begun : KeepsBounds s (s.modLine fun l => if s.de then l else l.begin s.newBurst rxd) :=
    modLine s _ fun h => by
      split_ifs
      exacts [h, h.begin (b := s.newBurst) rfl rfl rxd]
  unfold State.beginActivity
  refine begun.trans (modAccess _ _ ?_)
  split <;> exact le_rfl

theorem addressConflict (s : State) : KeepsBounds s s.addressConflict := by
  have counted := count s .addressConflicts
  unfold State.addressConflict
  dsimp only
  split_ifs
  · exact (counted.trans (modStation _ _)).trans (unjoinFlagged _)
  · exact counted.trans (modStation _ _)

/-- R33: a reply decided is no collision. -/
theorem answer (s : State) (kind : FrameKind) (f : Frame) : KeepsBounds s (s.answer kind f) := by
  refine modAccess s _ ?_
  split_ifs <;> exact le_rfl

/-- R119: a record is appended only while there is room. -/
theorem receiveData (s : State) (f : Frame) : KeepsBounds s (s.receiveData f) := by
  unfold State.receiveData
  split_ifs with _ full
  · exact (count s _).trans (answer _ _ _)
  · exact (count s _).trans (answer _ _ _)
  · refine trans (setH ?_ fun h => ?_) (answer _ _ _)
    · exact ((s.modInbound_unchanged _).append (State.modPeer_unchanged _ _ _)).mono (by decide)
    · refine h.append ?_ ?_ ?_ (Nat.lt_of_not_le full) <;> simp [State.listRecord]
  · exact refl s

/-- R124: a record is appended only while there is room. -/
theorem receiveDatagram (s : State) (f : Frame) : KeepsBounds s (s.receiveDatagram f) := by
  unfold State.receiveDatagram
  split_ifs with _ full
  · exact count s _
  · refine setH ((s.modInbound_unchanged _).mono (by decide)) fun h => ?_
    exact h.append (u := s.listRecord _) rfl rfl (List.length_append ..) (Nat.lt_of_not_le full)
  · exact refl s

theorem route (s : State) (f : Frame) : KeepsBounds s (s.route f) := by
  unfold State.route
  split
  · exact ite fun _ => receiveData s f
  · exact ite fun _ => receiveDatagram s f
  · exact ite fun _ => count s _
  · exact ite fun _ => count s _
  · exact settles (s.departure_settles _)
  · exact refl s

theorem takeFound (s : State) (found : Found) : KeepsBounds s (s.takeFound found) := by
  cases found with
  | noFrame => exact refl s
  | discarded k => exact count s k
  | valid f =>
    refine (count s .framesHeard).trans ?_
    unfold State.takeFound State.takeValid
    dsimp only
    split_ifs
    · exact addressConflict _
    · exact (settles (State.modPeer_settles _ _ _)).trans (route _ f)

theorem accessEnded (s : State) (w : WindowResult) : KeepsBounds s (s.accessEnded w) := by
  unfold State.accessEnded
  split
  · exact modAccess s _
  · exact ite fun _ => closeWith s w
  · exact applyWants s

theorem endOfFrame (s : State) (rxd : Levels) : KeepsBounds s (s.endOfFrame rxd) := by
  unfold State.endOfFrame
  split
  · exact refl s
  · have ended : KeepsBounds s (s.occupyWindow rxd).lineEnded :=
      ((modAccess s _).trans (modLine _ _ fun _ => Line.ended_counted)).trans (modAccess _ _)
    unfold State.endBurst
    split_ifs
    · exact (ended.trans (takeFound _ _)).trans (accessEnded _ _)
    · exact ended.trans (accessEnded _ _)

/-! ### Own frames -/

theorem reportIdle (s : State) (ct : Nat) : KeepsBounds s (s.reportIdle ct) :=
  modLine s _ fun h => by
    split_ifs
    exacts [h, h]

/-- R24: a draw is taken from the collision count as it stands. -/
theorem completeGap (s : State) : KeepsBounds s s.completeGap := by
  have drawn : KeepsBounds s (s.reportIdle Config.accessGap).takeRandom :=
    (reportIdle s _).trans (apart rfl rfl rfl rfl le_rfl)
  exact drawn.trans (modAccess _ _)

theorem drive (s : State) (st : AccessState) (f : Frame) : KeepsBounds s (s.drive st f) :=
  (modLine s _ Line.Counted.drive).trans (modAccess _ _)

/-- DE is released with the line as the readback of the frame has left it. -/
theorem endDrive (s : State) (bytes : List Byte) (rxd : Levels) :
    KeepsBounds s (s.endDrive (s.line.compare bytes rxd).1) :=
  (modLine s _ fun h => (h.compare bytes rxd).released).trans (modAccess _ _)

theorem win (s : State) : KeepsBounds s s.win := by
  unfold State.win
  split
  · exact (settles (s.modEngine_settles _)).trans (drive _ _ _)
  · next d i m _ =>
    have advanced : KeepsBounds s (s.advanceTx m) := ite fun _ => settles (s.modPeer_settles _ _)
    have taken : KeepsBounds s (s.takeMessage d i m) := advanced.trans
      (settles ((State.setSlot_settles _ i _).trans (State.modEngine_settles _ _)))
    exact taken.trans (drive _ _ _)
  · exact (modAccess s _).thenWants

theorem frameSent (s : State) (kind : FrameKind) (h : Bool) : KeepsBounds s (s.frameSent kind h) :=
  apart rfl rfl rfl rfl le_rfl

theorem noticeCompleted (s : State) (kind : FrameKind) : KeepsBounds s (s.noticeCompleted kind) := by
  unfold State.noticeCompleted
  split
  · split_ifs
    exacts [unjoinFlagged s, apart rfl rfl rfl rfl le_rfl, refl s]
  · exact ite fun _ => unjoinFlagged s
  · exact refl s

theorem afterContended (s : State) (kind : FrameKind) : KeepsBounds s (s.afterContended kind) := by
  unfold State.afterContended
  split_ifs
  exacts [refl s, modAccess s _, contendOrIdle s]

theorem completeFrame (s : State) (f : Frame) (rxd : Levels) :
    KeepsBounds s (s.completeFrame (s.line.compare f.bytes rxd).1 f) := by
  have released := (endDrive s f.bytes rxd).trans (modAccess _ (fun a => { a with n := 0 }) (Nat.zero_le _))
  have reported := (released.trans (count _ .framesSent)).trans (frameSent _ f.kind f.h)
  exact ((reported.trans (settles (State.completeInFlight_settles _))).trans (noticeCompleted _ _)).trans
    (afterContended _ _)

/-- R29: the count grows to 15 at most; the sixteenth collision in a row clears it. -/
theorem collide (s : State) (f : Frame) (rxd : Levels) :
    KeepsBounds s (s.collide (s.line.compare f.bytes rxd).1) := by
  have deferred := ((endDrive s f.bytes rxd).trans (modAccess _ fun a => { a with state := .defer })).trans
    (count _ .collisions)
  have settled := State.withdrawInFlight_settles
    (((s.endDrive (s.line.compare f.bytes rxd).1).modAccess fun a => { a with state := .defer }).count .collisions)
  have withdrawn := deferred.trans (settles settled)
  have n := congrArg Access.n settled.access
  have counted (below : ¬ Config.collisionLimit ≤ s.access.n) :=
    withdrawn.trans (collision (n.trans_lt (Nat.lt_of_not_le below)))
  unfold State.collide
  dsimp only
  split_ifs with limit
  · exact (withdrawn.trans (modAccess _ (fun a => { a with n := 0 }) (Nat.zero_le _))).trans (lineFault _ _)
  · exact (counted limit).trans (unjoinFlagged _)
  · exact counted limit

theorem completeReply (s : State) (f : Frame) (rxd : Levels) :
    KeepsBounds s (s.completeReply (s.line.compare f.bytes rxd).1 f) :=
  (((endDrive s f.bytes rxd).trans (count _ _)).trans (frameSent _ _ _)).trans (contendOrIdle _)

theorem abandonReply (s : State) (f : Frame) (rxd : Levels) :
    KeepsBounds s (s.abandonReply (s.line.compare f.bytes rxd).1) :=
  ((endDrive s f.bytes rxd).trans (modAccess _ _)).trans (count _ _)

/-- R56: the end of a line fault. -/
theorem recover (s : State) : KeepsBounds s ((s.placeNotice .join).enterActive).leaveOff := by
  have entered : KeepsBounds s (s.placeNotice .join).enterActive := apart rfl rfl rfl rfl le_rfl
  exact entered.trans (leaveOff _)

/-! ### Timers -/

theorem listenOut (s : State) : KeepsBounds s s.listenOut :=
  ite fun _ => thenWants (apart rfl rfl rfl rfl le_rfl)

theorem beaconOut (s : State) : KeepsBounds s s.beaconOut := by
  refine ite fun _ => ?_
  dsimp only
  split_ifs
  exacts [thenWants (apart rfl rfl rfl rfl le_rfl), modStation s _]

theorem renewalOut (s : State) : KeepsBounds s s.renewalOut :=
  ite fun _ => thenWants (apart rfl rfl rfl rfl le_rfl)

theorem presenceOut (s : State) (peer : Nat) : KeepsBounds s (s.presenceOut peer) :=
  ite fun _ => (settles (s.makeSilent_settles _)).thenWants

theorem holdOut (s : State) (peer : Nat) : KeepsBounds s (s.holdOut peer) :=
  ite fun _ => (settles (s.modPeer_settles _ _)).thenWants

theorem retryOut (s : State) (slot : Nat) : KeepsBounds s (s.retryOut slot) :=
  ite fun _ => (settles (s.modMessage_settles _ _)).thenWants

/-! ### Every step -/

/-- Each of the three invariants is kept by every operation. -/
theorem operationsKeep {inv : State → Prop} (keeps : ∀ {s t : State}, KeepsBounds s t → inv s → inv t) :
    OperationsKeep inv where
  surroundings same := keeps (of_unchanged same (by decide) (by decide) (by decide)
    (by rw [(same .station (by decide) : _ = _)]) (by rw [(same .access (by decide) : _ = _)]))
  elapse _ := keeps (apart rfl rfl rfl rfl le_rfl)
  pinReset straps rxdMark := keeps (resetWith (fun _ => rfl) none straps rxdMark)
  restart straps rxdMark := keeps (resetWith id _ straps rxdMark)
  status := keeps (apart rfl rfl rfl rfl le_rfl)
  configure _ _ _ _ _ _ _ _ := keeps (configure _ _ _ _ _ _ _ _ _)
  join := keeps (join _)
  leave mode := keeps (leave mode _)
  post _ _ _ _ := keeps (post _ _ _ _ _)
  cancel _ _ := keeps (cancel _ _ _)
  fetch := keeps (fetch _)
  takeOutcomes max := keeps (takeOutcomes max _)
  readCounters clear := keeps (readCounters clear _)
  beginActivity rxd := keeps (beginActivity _ rxd)
  endOfFrame rxd _ := keeps (endOfFrame _ rxd)
  completeGap _ := keeps (completeGap _)
  reportIdle ct := keeps (reportIdle _ ct)
  win _ := keeps (win _)
  completeFrame rxd _ := keeps (completeFrame _ _ rxd)
  collide {_ f} rxd _ := keeps (collide _ f rxd)
  driveReply _ _ := keeps ((modAccess _ _).trans (drive _ _ _))
  completeReply rxd _ := keeps (completeReply _ _ rxd)
  abandonReply {_ f} rxd _ := keeps (abandonReply _ f rxd)
  closeUnanswered _ := keeps (closeWith _ .noReply)
  lineFault reason _ _ := keeps (lineFault _ reason)
  recover _ := keeps (recover _)
  listenOut := keeps (listenOut _)
  beaconOut := keeps (beaconOut _)
  renewalOut := keeps (renewalOut _)
  presenceOut peer := keeps (presenceOut _ peer)
  holdOut peer := keeps (holdOut _ peer)
  retryOut slot := keeps (retryOut _ slot)

end KeepsBounds

/-- Settles O55: every operation keeps the three bounds, so every step keeps each of them. -/
theorem stepKeepsLevelsAndBounds : Obligations.StepKeepsLevelsAndBounds := by
  unfold Obligations.StepKeepsLevelsAndBounds
  exact ⟨fun _ _ h ht => (KeepsBounds.operationsKeep KeepsBounds.fill).step h ht,
    fun _ _ h ht => (KeepsBounds.operationsKeep KeepsBounds.counts).step h ht,
    fun _ _ h ht => (KeepsBounds.operationsKeep KeepsBounds.burst).step h ht⟩

end Sys2Proof.Machine
end

/-! SUPPORT. FETCH (R128, R129): what a new value of H leaves of the station (R50, R125), and the state a removed record
leaves. -/

section
namespace Sys2Proof.Machine

/-! ### A value of H -/

/-- R50, R125: of the station the HOLD notice alone may differ, and it is re-evaluated where H has changed. -/
def TellsHold (s t : State) : Prop :=
  t.station = { s.station with notices := { s.station.notices with hold :=
    if t.inbound.h = s.inbound.h then s.station.notices.hold else t.holdCondition } }

theorem State.holdCondition_congr {s t : State} (station : t.station = s.station) (h : t.inbound.h = s.inbound.h) :
    t.holdCondition = s.holdCondition := by
  rw [State.holdCondition, State.holdCondition, State.inService, State.inService, station, h]

/-- With the station and H as they were there is nothing to tell. -/
theorem TellsHold.of_same {s t : State} (station : t.station = s.station) (h : t.inbound.h = s.inbound.h) :
    TellsHold s t := by
  rw [TellsHold, station, if_pos h]

/-- Before and after, only the station and H matter. -/
theorem TellsHold.congr {s s' t t' : State} (k : TellsHold s t) (station : s'.station = s.station)
    (h : s'.inbound.h = s.inbound.h) (station' : t'.station = t.station) (h' : t'.inbound.h = t.inbound.h) :
    TellsHold s' t' := by
  rw [TellsHold, State.holdCondition_congr station' h', station', station, h', h]
  exact k

theorem State.setH_tellsHold (s : State) (h : Bool) : TellsHold s (s.setH h) := by
  unfold State.setH
  split_ifs with same
  · exact .of_same rfl rfl
  · have changed : ((s.modInbound fun b => { b with h := h }).reevalHold).inbound.h ≠ s.inbound.h := Ne.symm same
    rw [TellsHold, if_neg changed]
    rfl

/-! ### The request -/

/-- The state without the oldest record, of which `rest` follow, and with H re-evaluated (R128, R129). -/
def State.fetched (s : State) (rest : List Received) : State :=
  (s.modInbound fun b => { b with records := rest }).setH
    (holdAfterFetch s.station.config rest.length s.inbound.h)

theorem State.fetched_unchanged (s : State) (rest : List Received) :
    UnchangedBut [.station, .inbound] s (s.fetched rest) :=
  ((s.modInbound_unchanged _).append (State.setH_unchanged _ _)).mono (by decide)

theorem State.fetched_tellsHold (s : State) (rest : List Received) : TellsHold s (s.fetched rest) := by
  have set := State.setH_tellsHold (s.modInbound fun b => { b with records := rest })
    (holdAfterFetch s.station.config rest.length s.inbound.h)
  exact set.congr rfl rfl rfl rfl

theorem answerFetch_of_records {s : State} {r : Received} {rest : List Received} (h : s.inbound.records = r :: rest) :
    answerFetch s = ⟨(s.fetched rest).applyWants, .ok, r.bytes⟩ := by
  rw [answerFetch, h]
  rfl

/-- Table 10-5: the bytes of a record fetched, its flags byte in numbers. -/
theorem Received.bytes_eq (r : Received) : r.bytes =
    [byte r.source, byte ((if r.cls = .acked then 0 else 1) + (if r.broadcast then 2 else 0)),
      byte r.payload.length] ++ r.payload := by
  obtain ⟨source, cls, broadcast, payload⟩ := r
  cases cls <;> cases broadcast <;> rfl

/-- Settles O20: EMPTY, or the record removed, then R22 for the HOLD notice, then the reply. -/
theorem fetchTakesOldest : Obligations.FetchTakesOldest := by
  unfold Obligations.FetchTakesOldest
  refine ⟨fun s free none => ?_, fun s r rest free records => ?_⟩
  · exact congrArg Host.Outcome.next (State.present_unchanged s _ _ _ free (by rw [answerFetch, none]))
  · have presented : s.present Code.fetch answerFetch = (s.fetched rest).applyWants.modLink fun l =>
        { l with reply := some ⟨Code.fetch, .ok, r.bytes⟩ } := by
      rw [State.present_free s _ _ free, answerFetch_of_records records]
      rfl
    have fetched := s.fetched_unchanged rest
    have line : (s.fetched rest).line = s.line := fetched .line (by decide)
    have access : (s.fetched rest).access = s.access := fetched .access (by decide)
    have link : (s.fetched rest).link = s.link := fetched .link (by decide)
    rw [State.applyWants_eq, State.lineIdle, line, access] at presented
    refine ⟨_, congrArg Host.Outcome.next presented, ?_, ?_, ?_, ?_, ?_, ?_, rfl⟩
    · exact ((fetched.append (State.modAccess_unchanged _ _)).append (State.modLink_unchanged _ _)).mono (by decide)
    · exact (State.setH_controls _ _).records
    · exact State.setH_h _ _
    · rw [← r.bytes_eq]
      exact State.placed_link link _
    · exact (s.fetched_tellsHold rest).congr rfl rfl rfl rfl
    · rw [State.modLink_access, State.modAccess_access, access]

end Sys2Proof.Machine
end

/-! SUPPORT. DATA and DATAGRAM frames addressed here (R119, R120, R124): what the inbound store makes of one, and what
the end of its burst leaves of that, in a reply window and outside one. -/

section
namespace Sys2Proof.Machine

/-! ### The decisions of the inbound store -/

theorem Files.access {s t : State} (h : Files s t) : t.access = { s.access with reply := t.access.reply } := by
  obtain ⟨_, _, _, _, _, rfl⟩ := h
  rfl

theorem Files.epoch {s t : State} (h : Files s t) : t.station.epoch = s.station.epoch := by
  obtain ⟨_, _, _, _, _, rfl⟩ := h
  rfl

/-- R122, R33: with the access controller on, the reply is decided. -/
theorem State.answer_on {s : State} (h : s.access.state ≠ .off) (kind : FrameKind) (f : Frame) :
    s.answer kind f = s.modAccess fun a => { a with reply := some (s.replyFrame kind f) } := by
  rw [State.answer, State.modAccess, if_neg h]
  rfl

/-- R126: the records stand, and H becomes 1 at or above the hold level. -/
theorem State.applyHoldLevel_inbound (s : State) : s.applyHoldLevel.inbound =
    ⟨s.inbound.records, s.inbound.h || s.station.config.holdLevel ≤ s.inbound.records.length⟩ := by
  have level : s.applyHoldLevel.inbound.h =
      (s.inbound.h || decide (s.station.config.holdLevel ≤ s.inbound.records.length)) := by
    rw [State.applyHoldLevel, State.setH_h, holdAfterAppend]
    split_ifs with full <;> simp [full]
  rw [← level, ← (s.applyHoldLevel_controls).records]

/-- R120: where the record of an appended DATA frame stands, and what H is then. -/
theorem State.appendData_inbound (s : State) (f : Frame) : (s.appendData f).inbound =
    ⟨s.inbound.records ++ [⟨f.source, .acked, false, f.payload⟩],
      s.inbound.h || s.station.config.holdLevel ≤ s.inbound.records.length + 1⟩ := by
  rw [State.appendData, State.applyHoldLevel_inbound]
  simp [State.listRecord]

theorem State.appendData_files (s : State) (f : Frame) : Files s (s.appendData f) :=
  ((s.listRecord_files _).trans (State.modPeer_files _ _ _)).trans (State.setH_files _ _)

theorem State.appendData_unchanged (s : State) (f : Frame) :
    UnchangedBut [.station, .peers, .inbound] s (s.appendData f) :=
  (((s.modInbound_unchanged _).append (State.modPeer_unchanged _ _ _)).append (State.setH_unchanged _ _)).mono
    (by decide)

/-- R120: the sender's last accepted sequence is recorded. -/
theorem State.appendData_peer (s : State) {f : Frame} (hf : 1 ≤ f.source ∧ f.source ≤ 30) :
    (s.appendData f).peer f.source = { s.peer f.source with lastAccepted := some f.seq } := by
  have set : (s.appendData f).peers = _ := State.setH_peers _ _
  rw [State.peer_congr set, State.peer_modPeer_self _ _ _ (by omega) hf.2]
  rfl

/-- What taking a DATA frame in a station leaves of the decision (R119, R120, R122): the reply, built with the H there
then, the store, its sender's last accepted sequence and the counters. -/
structure Decided (f : Frame) (kind : FrameKind) (inbound : Inbound) (last : Option Nat) (counters : Counters)
    (st : Station) (t : State) : Prop where
  reply : t.access.reply = some ⟨kind, f.source, inbound.h, st.address, st.epoch, f.seq, []⟩
  inbound : t.inbound = inbound
  last : (t.peer f.source).lastAccepted = last
  counters : t.counters = counters

/-- R33: the reply decided takes the address, the epoch and H from the state it is decided in. -/
theorem State.answer_decided {s : State} {st : Station} (on : s.access.state ≠ .off)
    (address : s.station.address = st.address) (epoch : s.station.epoch = st.epoch) (kind : FrameKind) (f : Frame) :
    Decided f kind s.inbound (s.peer f.source).lastAccepted s.counters st (s.answer kind f) := by
  rw [State.answer_on on]
  exact ⟨by rw [← address, ← epoch]; rfl, rfl, rfl, rfl⟩

section
variable {s : State} {f : Frame} (service : s.inService = true)
include service

section
variable (on : s.access.state ≠ .off)
include on

/-- R119: a full store refuses. -/
theorem State.receiveData_full (full : Config.inboundRoom ≤ s.inbound.records.length) :
    Decided f .refuse s.inbound (s.peer f.source).lastAccepted (s.counters.bump .refusalsSent) s.station
      (s.receiveData f) := by
  rw [State.receiveData, if_pos service, if_pos full]
  exact State.answer_decided (s := s.count .refusalsSent) on rfl rfl _ f

/-- R119: a duplicate is acknowledged again. -/
theorem State.receiveData_duplicate (room : s.inbound.records.length < Config.inboundRoom)
    (last : (s.peer f.source).lastAccepted = some f.seq) :
    Decided f .ack s.inbound (s.peer f.source).lastAccepted (s.counters.bump .duplicates) s.station
      (s.receiveData f) := by
  rw [State.receiveData, if_pos service, if_neg (Nat.not_le_of_lt room), if_pos last]
  exact State.answer_decided (s := s.count .duplicates) on rfl rfl _ f

/-- R119, R120: anything else is appended and acknowledged. -/
theorem State.receiveData_fresh (room : s.inbound.records.length < Config.inboundRoom)
    (last : (s.peer f.source).lastAccepted ≠ some f.seq) (hf : 1 ≤ f.source ∧ f.source ≤ 30) :
    Decided f .ack
      ⟨s.inbound.records ++ [⟨f.source, .acked, false, f.payload⟩],
        s.inbound.h || s.station.config.holdLevel ≤ s.inbound.records.length + 1⟩
      (some f.seq) s.counters s.station (s.receiveData f) := by
  have unchanged := s.appendData_unchanged f
  have files := s.appendData_files f
  have access : (s.appendData f).access = s.access := unchanged .access (by decide)
  have counters : (s.appendData f).counters = s.counters := unchanged .counters (by decide)
  have decided := State.answer_decided (by rwa [access]) files.address files.epoch .ack f
  rw [s.appendData_inbound, s.appendData_peer hf, counters] at decided
  rw [State.receiveData, if_pos service, if_neg (Nat.not_le_of_lt room), if_neg last]
  exact decided

end

/-- R124: a full store drops. -/
theorem State.receiveDatagram_full (full : Config.inboundRoom ≤ s.inbound.records.length) :
    (s.receiveDatagram f).inbound = s.inbound ∧
      (s.receiveDatagram f).counters = s.counters.bump .droppedDatagrams := by
  rw [State.receiveDatagram, if_pos service, if_pos full]
  exact ⟨rfl, rfl⟩

/-- R124: with room the frame is appended. -/
theorem State.receiveDatagram_room (room : s.inbound.records.length < Config.inboundRoom) :
    (s.receiveDatagram f).inbound =
      ⟨s.inbound.records ++ [⟨f.source, .datagram, f.dest = Config.broadcast, f.payload⟩],
        s.inbound.h || s.station.config.holdLevel ≤ s.inbound.records.length + 1⟩ ∧
      (s.receiveDatagram f).counters = s.counters := by
  rw [State.receiveDatagram, if_pos service, if_neg (Nat.not_le_of_lt room)]
  refine ⟨?_, (State.applyHoldLevel_controls _).counters⟩
  rw [State.applyHoldLevel_inbound]
  simp [State.listRecord]

end

/-- R124: no reply is decided. -/
theorem State.receiveDatagram_access (s : State) (f : Frame) : (s.receiveDatagram f).access = s.access := by
  unfold State.receiveDatagram
  split_ifs
  exacts [rfl, State.setH_unchanged _ _ .access (by decide), rfl]

/-! ### The HOLD notice -/

theorem State.applyHoldLevel_tellsHold {s u : State} (station : u.station = s.station) (h : u.inbound.h = s.inbound.h) :
    TellsHold s u.applyHoldLevel :=
  (State.setH_tellsHold u _).congr station.symm h.symm rfl rfl

theorem State.receiveData_tellsHold (s : State) (f : Frame) : TellsHold s (s.receiveData f) := by
  unfold State.receiveData
  split_ifs
  · exact .of_same rfl rfl
  · exact .of_same rfl rfl
  · have appended : TellsHold s (s.appendData f) :=
      State.applyHoldLevel_tellsHold (State.modPeer_station _ _ _) (by rw [State.modPeer_inbound]; rfl)
    exact appended.congr rfl rfl rfl rfl
  · exact .of_same rfl rfl

theorem State.receiveDatagram_tellsHold (s : State) (f : Frame) : TellsHold s (s.receiveDatagram f) := by
  unfold State.receiveDatagram
  split_ifs
  exacts [.of_same rfl rfl, State.applyHoldLevel_tellsHold rfl rfl, .of_same rfl rfl]

/-- A frame other than a LEAVE notice touches of the station the HOLD notice alone, for the H it makes (R50, R126). -/
theorem State.route_tellsHold (s : State) {f : Frame} (h : f.kind ≠ .notice .leave) : TellsHold s (s.route f) := by
  have same : TellsHold s s := .of_same rfl rfl
  have counted : TellsHold s (s.count .strayReplies) := .of_same rfl rfl
  unfold State.route
  split
  · exact ite_keeps same fun _ => s.receiveData_tellsHold f
  · exact ite_keeps same fun _ => s.receiveDatagram_tellsHold f
  · exact ite_keeps same fun _ => counted
  · exact ite_keeps same fun _ => counted
  · next leave => exact absurd leave h
  · exact same

/-! ### The end of the burst -/

theorem State.accessEnded_unchanged (s : State) (w : WindowResult) :
    UnchangedBut [.station, .peers, .outbound, .engine, .outcomes, .access] s (s.accessEnded w) := by
  unfold State.accessEnded
  split
  · exact (s.modAccess_unchanged _).mono (by decide)
  · exact ite_keeps (.refl _ s) fun _ => s.closeWith_unchanged w
  · exact s.applyWants_unchanged.mono (by decide)

theorem State.accessEnded_inbound (s : State) (w : WindowResult) : (s.accessEnded w).inbound = s.inbound :=
  s.accessEnded_unchanged w .inbound (by decide)

theorem State.accessEnded_counters (s : State) (w : WindowResult) : (s.accessEnded w).counters = s.counters :=
  s.accessEnded_unchanged w .counters (by decide)

/-- R33: a reply decided waits for its gap. -/
theorem State.accessEnded_reply (s : State) (w : WindowResult) : (s.accessEnded w).access.reply = s.access.reply := by
  unfold State.accessEnded
  split
  · rfl
  · split_ifs
    · show (s.closeWith w).access.reply = _
      rw [s.closeWith_access]
    · rfl
  · rw [State.applyWants_eq]
    rfl

/-- A window that closes leaves every last accepted sequence (R69, R73). -/
theorem State.accessEnded_lastAccepted (s : State) (w : WindowResult) (a : Nat) :
    ((s.accessEnded w).peer a).lastAccepted = (s.peer a).lastAccepted := by
  have changed (b : Nat) (g : PeerRecord → PeerRecord) (keeps : ∀ p, (g p).lastAccepted = p.lastAccepted) :
      ((s.modPeer b g).peer a).lastAccepted = (s.peer a).lastAccepted := by
    rcases s.peer_modPeer_cases b a g with same | ⟨rfl, new⟩
    exacts [congrArg _ same, (congrArg _ new).trans (keeps _)]
  rcases s.accessEnded_peers w with same | ⟨b, held⟩ | ⟨b, silent⟩
  · rw [State.peer_congr same]
  · rw [State.peer_congr held]
    exact changed b _ fun _ => rfl
  · rw [State.peer_congr silent]
    exact changed b _ fun _ => rfl

/-- The end of the burst leaves what is decided. -/
theorem Decided.accessEnded {f : Frame} {kind : FrameKind} {inbound : Inbound} {last : Option Nat}
    {counters : Counters} {st : Station} {t : State} (h : Decided f kind inbound last counters st t)
    (w : WindowResult) : Decided f kind inbound last counters st (t.accessEnded w) :=
  ⟨(t.accessEnded_reply w).trans h.reply, (t.accessEnded_inbound w).trans h.inbound,
    (t.accessEnded_lastAccepted w f.source).trans h.last, (t.accessEnded_counters w).trans h.counters⟩

/-! ### A frame of another station -/

/-- The state in which a frame of another station that ends the burst is routed: the window's occupation settled (R31),
the frame counted, its sender's record updated (R64). -/
def State.toldBy (s : State) (rxd : Levels) (f : Frame) : State := (s.occupyWindow rxd).told f

section
variable (s : State) (rxd : Levels) (f : Frame)

theorem State.toldBy_unchanged : UnchangedBut [.line, .access, .counters, .peers] s (s.toldBy rxd f) :=
  ((s.occupyWindow_unchanged rxd).append (State.told_unchanged _ f)).mono (by decide)

theorem State.toldBy_access : (s.toldBy rxd f).access = { (s.occupyWindow rxd).access with stuck := false } :=
  State.told_access _ f

theorem State.toldBy_station : (s.toldBy rxd f).station = s.station := State.told_station _ f

theorem State.toldBy_inbound : (s.toldBy rxd f).inbound = s.inbound := s.toldBy_unchanged rxd f .inbound (by decide)

theorem State.toldBy_counters : (s.toldBy rxd f).counters = s.counters.bump .framesHeard := State.told_counters _ f

/-- In ACTIVE and LEAVING the frame is taken by the inbound store (R119, R124). -/
theorem State.toldBy_serves (service : s.station.state = .active ∨ s.station.state = .leaving) :
    (s.toldBy rxd f).inService = true := by
  rw [State.inService_eq, State.toldBy_station]
  exact decide_eq_true service

/-- R64: a new epoch clears the last accepted sequence. -/
theorem State.toldBy_lastAccepted {f : Frame} (hk : f.kind ≠ .notice .leave) (hf : 1 ≤ f.source ∧ f.source ≤ 30) :
    ((s.toldBy rxd f).peer f.source).lastAccepted =
      if (s.peer f.source).epoch = some f.epoch then (s.peer f.source).lastAccepted else none := by
  rw [State.toldBy, State.told_peer _ hf, PeerRecord.heard_eq _ hk]
  rfl

end

/-- All that a frame of another station changes outside a reply window, whatever the inbound store makes of it: its
sender's record, the HOLD notice, the store and the counters, the reply decided and the end of the burst. -/
structure FiledOutside (f : Frame) (s t : State) : Prop where
  unchanged : UnchangedBut [.line, .access, .station, .peers, .inbound, .counters] s t
  others : ∀ a, a ≠ f.source → t.peer a = s.peer a
  hold : TellsHold s t
  access : t.access = { s.access with
    state := afterBurst s.access.state t.wantsLine
    stuck := false
    reply := t.access.reply }

theorem State.filedOutside {s : State} {f : Frame} (hk : f.kind ≠ .notice .leave) (hw : s.access.state ≠ .awaitReply)
    (rxd : Levels) (w : WindowResult) : FiledOutside f s (((s.toldBy rxd f).route f).accessEnded w) := by
  have files := (s.toldBy rxd f).route_files hk
  have told := s.toldBy_unchanged rxd f
  have access : ((s.toldBy rxd f).route f).access =
      { s.access with stuck := false, reply := ((s.toldBy rxd f).route f).access.reply } := by
    rw [files.access, State.toldBy_access, State.occupyWindow_of_not_awaiting hw]
  have line : ((s.toldBy rxd f).route f).line = Line.ended :=
    Eq.trans (files.unchanged .line (by decide)) (State.told_line (s.occupyWindow rxd) f)
  have state : ((s.toldBy rxd f).route f).access.state = s.access.state := by rw [access]
  rw [State.accessEnded_outside (by rwa [state]) (State.lineIdle_of_ended line), state]
  refine ⟨((told.append files.unchanged).append (State.modAccess_unchanged _ _)).mono (by decide), fun a ha => ?_,
    ?_, ?_⟩
  · have kept : (s.toldBy rxd f).peer a = s.peer a := State.told_peer_other _ f ha
    rcases (s.toldBy rxd f).route_peers hk with same | accepted
    · exact (State.peer_congr same a).trans kept
    · exact ((State.peer_congr accepted a).trans (State.peer_modPeer_other _ _ _ _ ha)).trans kept
  · exact (State.route_tellsHold (s.toldBy rxd f) hk).congr (s.toldBy_station rxd f).symm
      (congrArg Inbound.h (s.toldBy_inbound rxd f)).symm rfl rfl
  · rw [State.modAccess_access, access]
    rfl

/-- Another station's valid frame is routed, and then the access controller takes the end of the burst (R6, R15). -/
theorem exec_endOfFrame_other {s : State} {rxd : Levels} {f : Frame} (hf : HearsFrame s rxd f)
    (hsource : f.source ≠ s.station.address) (hk : f.kind ≠ .notice .leave) :
    ∃ w, exec (.endOfFrame rxd) s = .next (((s.toldBy rxd f).route f).accessEnded w) ∧
      UnchangedBut [.line, .access, .station, .peers, .outbound, .engine, .inbound, .outcomes, .counters] s
        (((s.toldBy rxd f).route f).accessEnded w) ∧
      (s.access.state ≠ .awaitReply → FiledOutside f s (((s.toldBy rxd f).route f).accessEnded w)) := by
  obtain ⟨⟨hde, hears⟩, hfound⟩ := hf
  obtain ⟨b, hb, hhears⟩ := Option.map_eq_some_iff.mp hears
  have taken : (s.occupyWindow rxd).lineEnded.takeFound (.valid f) = (s.toldBy rxd f).route f :=
    State.takeValid_other hsource
  have ended := exec_endOfFrame_of_burst hde hb rxd
  rw [State.endBurst_heard (by exact hhears), hfound, taken] at ended
  refine ⟨_, ended, ?_, fun hw => State.filedOutside hk hw rxd _⟩
  exact (((s.toldBy_unchanged rxd f).append ((s.toldBy rxd f).route_files hk).unchanged).append
    (State.accessEnded_unchanged _ _)).mono (by decide)

/-! ### The obligations -/

/-- Settles O43: the three cases of the decision, what the end of the burst leaves of each, and the frame outside a
reply window. -/
theorem dataFrameDecision : Obligations.DataFrameDecision := by
  unfold Obligations.DataFrameDecision
  intro s rxd f hf hsource hk hdest service hon last reply heard
  have range := State.found_source hf.2
  have kind : f.kind ≠ .notice .leave := by rw [hk]; nofun
  have routed : (s.toldBy rxd f).route f = (s.toldBy rxd f).receiveData f := by
    rw [State.route, hk]
    exact if_pos (by rw [State.toldBy_station, hdest])
  obtain ⟨w, ended, unchanged, outside⟩ := exec_endOfFrame_other hf hsource kind
  rw [routed] at ended unchanged outside
  have serves := s.toldBy_serves rxd f service
  have on : (s.toldBy rxd f).access.state ≠ .off := by
    rw [State.toldBy_access]
    exact hon
  have inbound := s.toldBy_inbound rxd f
  have sequence := s.toldBy_lastAccepted rxd kind range
  have station := s.toldBy_station rxd f
  have counted := s.toldBy_counters rxd f
  refine ⟨_, ended, fun full => ?_, fun room duplicate => ?_, fun room fresh => ?_, unchanged, fun hw => ?_⟩
  · have decided := State.receiveData_full (f := f) serves on (by rwa [inbound])
    rw [inbound, sequence, station, counted] at decided
    obtain ⟨replied, stored, recorded, counters⟩ := decided.accessEnded w
    exact ⟨replied, stored, recorded, counters⟩
  · have decided := State.receiveData_duplicate serves on (by rwa [inbound]) (sequence.trans duplicate)
    rw [inbound, sequence, station, counted] at decided
    obtain ⟨replied, stored, recorded, counters⟩ := decided.accessEnded w
    exact ⟨replied, stored, recorded, counters⟩
  · have decided := State.receiveData_fresh serves on (by rwa [inbound]) (by rwa [sequence]) range
    rw [inbound, station, counted] at decided
    obtain ⟨replied, stored, recorded, counters⟩ := decided.accessEnded w
    rw [replied, stored]
    exact ⟨rfl, rfl, rfl, recorded, counters⟩
  · obtain ⟨alone, others, hold, access⟩ := outside hw
    exact ⟨alone, others, hold, access⟩

/-- Settles O44: with room and without, what the end of the burst leaves of each, and the frame outside a
reply window. -/
theorem datagramAcceptance : Obligations.DatagramAcceptance := by
  unfold Obligations.DatagramAcceptance
  intro s rxd f hf hsource hk hdest service
  have kind : f.kind ≠ .notice .leave := by rw [hk]; nofun
  have routed : (s.toldBy rxd f).route f = (s.toldBy rxd f).receiveDatagram f := by
    rw [State.route, hk]
    exact if_pos (by rwa [State.toldBy_station])
  obtain ⟨w, ended, unchanged, outside⟩ := exec_endOfFrame_other hf hsource kind
  rw [routed] at ended unchanged outside
  have serves := s.toldBy_serves rxd f service
  have inbound := s.toldBy_inbound rxd f
  have counted := s.toldBy_counters rxd f
  have reply : (((s.toldBy rxd f).receiveDatagram f).accessEnded w).access.reply = s.access.reply := by
    rw [State.accessEnded_reply, State.receiveDatagram_access, State.toldBy_access]
    rfl
  refine ⟨_, ended, reply, ?_, fun room => ?_, fun full => ?_, unchanged, fun hw => ?_⟩
  · rw [State.accessEnded_lastAccepted, State.peer_congr (State.receiveDatagram_peers _ f),
      s.toldBy_lastAccepted rxd kind (State.found_source hf.2)]
  · obtain ⟨stored, counters⟩ := State.receiveDatagram_room (f := f) serves (by rwa [inbound])
    rw [State.accessEnded_inbound, State.accessEnded_counters, stored, counters, inbound, s.toldBy_station, counted]
    exact ⟨rfl, rfl, rfl⟩
  · obtain ⟨stored, counters⟩ := State.receiveDatagram_full (f := f) serves (by rwa [inbound])
    rw [State.accessEnded_inbound, State.accessEnded_counters, stored, counters, inbound, counted]
    exact ⟨rfl, rfl⟩
  · obtain ⟨alone, others, hold, access⟩ := outside hw
    rw [reply] at access
    exact ⟨alone, others, hold, access⟩

end Sys2Proof.Machine
end

/-! SUPPORT. TAKE OUTCOMES (R138, R139): what a consistent store holds once records are taken, and the answer. -/

section
namespace Sys2Proof.Machine

-- One proof at a time: a thread for each that waits for the same case split can run the checker out of memory.
set_option Elab.async false

/-! ### The blocks that stand -/

theorem State.modOutcomes_unchanged (s : State) (f : Outcomes → Outcomes) :
    UnchangedBut [.outcomes] s (s.modOutcomes f) := by
  intro b hb
  cases b
  case outcomes => exact absurd (by decide) hb
  all_goals rfl

theorem State.freeDone_unchanged (s : State) (i : Nat) : UnchangedBut [.outbound] s (s.freeDone i) := by
  unfold State.freeDone
  split_ifs
  exacts [s.modOutbound_unchanged _, .refl _ s]

theorem State.refill_unchanged (s : State) : UnchangedBut [.outbound, .outcomes] s s.refill := by
  have freed (l : List Nat) (u : State) : UnchangedBut [.outbound] u (l.foldl State.freeDone u) :=
    foldl_invariant State.freeDone (UnchangedBut [.outbound] u) (fun t i k => k.trans (t.freeDone_unchanged i)) l u
      (.refl _ u)
  exact ((s.modOutcomes_unchanged _).append (freed _ _)).mono (by decide)

theorem State.taken_unchanged (s : State) (n : Nat) : UnchangedBut [.outbound, .outcomes] s (s.taken n) :=
  ((s.modOutcomes_unchanged _).append (State.refill_unchanged _)).mono (by decide)

/-- More records than there are cannot be taken. -/
theorem State.taken_min (s : State) (n : Nat) : s.taken (min n s.outcomes.queue.length) = s.taken n :=
  have rest : s.outcomes.queue.drop (min n s.outcomes.queue.length) = s.outcomes.queue.drop n :=
    List.drop_eq_drop_iff.mpr (by omega)
  congrArg (fun queue => (s.modOutcomes fun o => { o with queue := queue }).refill) rest

/-! ### A consistent store -/

/-- R83: the waiting-outcome list names no slot twice. -/
theorem StoreConsistent.nodup_waiting {s : State} (h : StoreConsistent s) : s.outcomes.waiting.Nodup :=
  List.nodup_iff_count_eq_one.mpr fun _ hi =>
    have ⟨_, _, once⟩ := h.of_mem_waiting hi
    once

section
variable {s : State} {n : Nat} (h : StoreConsistent s) (hn : n ≤ s.outcomes.queue.length)
include h hn

/-- R137: while a slot waits the outcome queue is full, so its room is what was taken. -/
theorem StoreConsistent.room_eq : s.outcomes.waiting = [] ∨ s.room n = n := by
  by_cases room : s.outcomes.queue.length < 16
  · exact .inl (h.waiting_eq_nil room)
  · have := h.outcomes_le
    rw [State.room, List.length_drop]
    omega

theorem StoreConsistent.take_room : s.outcomes.waiting.take (s.room n) = s.outcomes.waiting.take n := by
  rcases h.room_eq hn with none | room
  · simp [none]
  · rw [room]

theorem StoreConsistent.drop_room : s.outcomes.waiting.drop (s.room n) = s.outcomes.waiting.drop n := by
  rcases h.room_eq hn with none | room
  · simp [none]
  · rw [room]

theorem StoreConsistent.taken_waiting : (s.taken n).outcomes.waiting = s.outcomes.waiting.drop n := by
  rw [s.taken_outcomes, h.drop_room hn]

/-- R138: the slots of the outcomes that move are FREE with their tags. -/
theorem StoreConsistent.taken_slot (i : Nat) : (s.taken n).slot i =
    if i ∈ s.outcomes.waiting.take n then ⟨(s.slot i).tag, none⟩ else s.slot i := by
  rw [s.taken_slot, h.take_room hn]
  refine if_congr (and_iff_left_of_imp fun moved => ?_) rfl rfl
  obtain ⟨done, -⟩ := h.of_mem_waiting (List.mem_of_mem_take moved)
  exact done

/-- A slot that still waits has the outcome it had. -/
theorem StoreConsistent.taken_doneOutcome {i : Nat} (hi : i ∈ s.outcomes.waiting.drop n) :
    (s.taken n).doneOutcome i = s.doneOutcome i := by
  refine State.doneOutcome_congr ((h.taken_slot hn i).trans (if_neg fun moved => ?_))
  exact List.disjoint_take_drop h.nodup_waiting le_rfl moved hi

/-- R136, R139: the records that are left and those that waited are owed in the same order. -/
theorem StoreConsistent.taken_owed : (s.taken n).owedOutcomes = s.owedOutcomes.drop n := by
  have left : (s.outcomes.waiting.drop n).filterMap (s.taken n).doneOutcome =
      (s.outcomes.waiting.drop n).filterMap s.doneOutcome :=
    List.filterMap_congr fun _ => h.taken_doneOutcome hn
  calc (s.taken n).owedOutcomes
      = s.outcomes.queue.drop n ++ ((s.outcomes.waiting.take n).filterMap s.doneOutcome ++
          (s.outcomes.waiting.drop n).filterMap s.doneOutcome) := by
        rw [State.owedOutcomes, h.taken_waiting hn, left, s.taken_outcomes, h.take_room hn, List.append_assoc]
    _ = s.outcomes.queue.drop n ++ s.outcomes.waiting.filterMap s.doneOutcome := by
        rw [← List.filterMap_append, List.take_append_drop]
    _ = s.owedOutcomes.drop n := (List.drop_append_of_le_length hn).symm

end

/-! ### The answer -/

/-- Table 10-6: the bytes of an outcome record, its result in numbers. -/
theorem OutcomeRecord.bytes_eq (o : OutcomeRecord) : o.bytes = [byte o.slot, byte o.tag, byte o.dest,
    (match o.result with
    | .delivered => 1
    | .sent => 2
    | .noAck => 3
    | .peerSilent => 4
    | .cancelled => 5
    | .abandoned => 6),
    byte o.attempts] := by
  obtain ⟨slot, tag, dest, result, attempts⟩ := o
  cases result <;> rfl

section
variable {max : Byte} {s : State}

theorem answerTakeOutcomes_outside (outside : max.toNat < 1 ∨ 8 < max.toNat) :
    answerTakeOutcomes max s = s.unchanged .badParameter := if_pos outside

variable (low : 1 ≤ max.toNat) (high : max.toNat ≤ 8)
include low high

theorem answerTakeOutcomes_empty (empty : s.outcomes.queue = []) :
    answerTakeOutcomes max s = s.unchanged .empty := by
  rw [answerTakeOutcomes, if_neg (by omega), if_pos empty]

/-- R139: as many records as are asked for and there are leave the queue, and are the reply. -/
theorem answerTakeOutcomes_taken (filled : s.outcomes.queue ≠ []) : answerTakeOutcomes max s =
    ⟨s.taken (min max.toNat s.outcomes.queue.length), .ok,
      byte (min max.toNat s.outcomes.queue.length) ::
        (s.outcomes.queue.take (min max.toNat s.outcomes.queue.length)).flatMap OutcomeRecord.bytes⟩ := by
  rw [s.taken_min, ← List.take_eq_take_min, ← List.length_take]
  exact (if_neg (by omega)).trans (if_neg filled)

end

/-- Settles O21: the two refusals, and the store once the records that were asked for are taken. -/
theorem takeOutcomesInOrder : Obligations.TakeOutcomesInOrder := by
  unfold Obligations.TakeOutcomesInOrder
  refine fun max s free => ⟨fun outside => ?_, fun low high empty => ?_, ?_⟩
  · exact congrArg Host.Outcome.next (s.present_unchanged _ _ _ free (answerTakeOutcomes_outside outside))
  · exact congrArg Host.Outcome.next (s.present_unchanged _ _ _ free (answerTakeOutcomes_empty low high empty))
  · intro low high filled h k
    have hk : k ≤ s.outcomes.queue.length := min_le_right _ _
    have same := s.taken_unchanged k
    refine ⟨_, congrArg Host.Outcome.next (s.present_answer _ free (answerTakeOutcomes_taken low high filled)),
      (same.append (State.modLink_unchanged _ _)).mono (by decide), ?_, h.taken_owed hk, h.taken_waiting hk,
      (h.taken k).waiting_eq_nil, s.taken_queue k, h.taken_slot hk⟩
    refine (State.placed_link (same .link (by decide)) _).trans ?_
    exact congrArg (fun data => { s.link with reply := some ⟨0x21, .ok, byte k :: data⟩ })
      (List.flatMap_congr fun o _ => OutcomeRecord.bytes_eq o)

end Sys2Proof.Machine
end

/-! SUPPORT. The counters (R143), and READ COUNTERS (R144). -/

section
namespace Sys2Proof.Machine

-- One proof at a time: a thread for each that waits for the same case split can run the checker out of memory.
set_option Elab.async false

/-! ### Counting -/

/-- R143: below its limit the counter of the event counts it. -/
theorem Counters.value_bump_self {c : Counters} {k : CounterName} (h : c.value k < 65535) :
    (c.bump k).value k = c.value k + 1 := by
  rw [Counters.value_bump, if_pos rfl]
  exact if_pos h

/-- R143: at its limit a counter stays. -/
theorem Counters.value_bump_full {c : Counters} {k : CounterName} (h : c.value k = 65535) :
    (c.bump k).value k = 65535 := by
  rw [Counters.value_bump, if_pos rfl, h]
  rfl

theorem Counters.value_bump_other (c : Counters) {j k : CounterName} (h : j ≠ k) :
    (c.bump k).value j = c.value j := by
  rw [Counters.value_bump, if_neg h]

theorem Counters.value_zero (k : CounterName) : Counters.zero.value k = 0 := by cases k <;> rfl

/-- R143: an event after a clear is the only one counted. -/
theorem State.count_of_zero {s : State} (h : s.counters = Counters.zero) (k : CounterName) :
    (s.count k).counters.value k = 1 ∧ ∀ j, j ≠ k → (s.count k).counters.value j = 0 := by
  rw [State.count_counters, h]
  refine ⟨?_, fun j hj => (Counters.value_bump_other _ hj).trans (Counters.value_zero j)⟩
  have below : Counters.zero.value k < 65535 := by rw [Counters.value_zero]; decide
  rw [Counters.value_bump_self below, Counters.value_zero]

/-! ### The request -/

section
variable {clear : Byte} {s : State} (free : s.link.reply = none)
include free

/-- R155: a clear byte that is neither 0 nor 1. -/
theorem exec_readCounters_outside (outside : 2 ≤ clear.toNat) : exec (.readCounters clear) s =
    .next { s with link := { s.link with reply := some ⟨0x31, .badParameter, []⟩ } } := by
  have keep : clear ≠ 0 := by rintro rfl; exact absurd outside (by decide)
  have reset : clear ≠ 1 := by rintro rfl; exact absurd outside (by decide)
  refine congrArg Host.Outcome.next (s.present_unchanged _ _ _ free ?_)
  rw [answerReadCounters, if_neg keep, if_neg reset]

theorem exec_readCounters_keep : exec (.readCounters 0) s =
    .next { s with link := { s.link with reply := some ⟨0x31, .ok, s.counters.bytes⟩ } } :=
  congrArg Host.Outcome.next (s.present_answer _ free (if_pos rfl))

/-- R144: the counters are read and cleared as one action. -/
theorem exec_readCounters_clear : exec (.readCounters 1) s =
    .next { s with
      counters := Counters.zero
      link := { s.link with reply := some ⟨0x31, .ok, s.counters.bytes⟩ } } :=
  have cleared : answerReadCounters 1 s = ⟨s.modCounters fun _ => Counters.zero, .ok, s.counters.bytes⟩ := rfl
  congrArg Host.Outcome.next (s.present_answer Code.readCounters free cleared)

end

/-- R60, R153: a RESTART clears the counters, and its own reply is in the slot whatever was there. -/
theorem exec_restart_clears (straps : BitVec 5) (rxdMark : Bool) (s : State) :
    ∃ u, exec (.restart straps rxdMark) s = .next u ∧ (∀ k, u.counters.value k = 0) ∧
      u.link.reply = some ⟨0x0F, .restarted, []⟩ :=
  ⟨_, rfl, Counters.value_zero, rfl⟩

/-- Settles O23: what an event counts, the three answers, and what an event or a RESTART makes of the counters then. -/
theorem readCountersLosesNothing : Obligations.ReadCountersLosesNothing := by
  unfold Obligations.ReadCountersLosesNothing
  refine ⟨fun s k => ?_, ?_⟩
  · exact ⟨s.count_unchanged k, rfl, Counters.value_bump_self, Counters.value_bump_full,
      fun _ => Counters.value_bump_other _⟩
  intro clear s free values bytes
  refine ⟨?_, ?_, ?_, ?_, ?_⟩
  · exact exec_readCounters_outside free
  · rintro rfl
    exact exec_readCounters_keep free
  · rintro rfl
    exact exec_readCounters_clear free
  · rintro k t rfl read
    cases (exec_readCounters_clear free).symm.trans read
    exact State.count_of_zero rfl k
  · exact fun straps rxdMark t _ => exec_restart_clears straps rxdMark t

end Sys2Proof.Machine
end

/-! SUPPORT. Transactions on the host link (R146 to R154): the bits on SDI and SDO, what byte 0 and its parameter bytes
ask for, and a request's own row. -/

section
namespace Sys2Proof.Machine

-- One proof at a time: a thread for each that waits for the same case split can run the checker out of memory.
set_option Elab.async false

/-! ### The bits on SDI -/

/-- R146: fewer than eight bits complete no byte. -/
theorem bytesOf_incomplete {bits : Bits} (h : bits.length < 8) : bytesOf bits = [] := by
  unfold bytesOf
  split
  · simp only [List.length_cons] at h
    omega
  · rfl

/-- R146: the bytes whose bits were clocked, without those of an incomplete byte. -/
theorem bytesOf_flatMap (bytes : List Byte) {partly : Bits} (h : partly.length < 8) :
    bytesOf (bytes.flatMap bitsOf ++ partly) = bytes := by
  induction bytes with
  | nil => exact bytesOf_incomplete h
  | cons b rest ih => rw [List.flatMap_cons, List.append_assoc, bytesOf_bitsOf, ih]

/-! ### The bits on SDO -/

/-- R146: bit k of the bytes is bit k mod 8, from the most significant one, of byte k / 8. -/
theorem flatMap_bitsOf_getElem? (bytes : List Byte) (k : Nat) :
    (bytes.flatMap bitsOf)[k]? = bytes[k / 8]?.map fun b => b.getMsbD (k % 8) := by
  induction bytes generalizing k with
  | nil => rfl
  | cons b rest ih =>
    rw [List.flatMap_cons]
    by_cases first : k < 8
    · rw [List.getElem?_append_left (by rwa [bitsOf_length]), Nat.div_eq_of_lt first, Nat.mod_eq_of_lt first]
      simp [bitsOf, first]
    · obtain ⟨j, rfl⟩ := Nat.exists_eq_add_of_le (Nat.le_of_not_lt first)
      have next : (8 + j) / 8 = j / 8 + 1 := by omega
      rw [List.getElem?_append_right (by simp), bitsOf_length, Nat.add_sub_cancel_left, ih, next,
        List.getElem?_cons_succ, Nat.add_mod_left]

/-- R147: after the last byte SDO sends zeros. -/
theorem Transaction.sent_getElem? (t : Transaction) {n k : Nat} (h : k < n) : (t.sent n)[k]? =
    some (((t.status :: (t.noted.map Reply.bytes).getD []).getD (k / 8) 0).getMsbD (k % 8)) := by
  unfold Transaction.sent
  dsimp only
  generalize t.status :: (t.noted.map Reply.bytes).getD [] = bytes
  have bits := flatMap_bitsOf_getElem? bytes k
  rw [List.getElem?_take_of_lt h, List.getD_eq_getElem?_getD]
  cases byte : bytes[k / 8]? with
  | some b =>
    rw [byte, Option.map_some] at bits
    rw [List.getElem?_append_left (List.getElem?_eq_some_iff.mp bits).1, bits, Option.getD_some]
  | none =>
    rw [byte, Option.map_none, List.getElem?_eq_none_iff] at bits
    rw [List.getElem?_append_right bits, List.getElem?_replicate, if_pos (by omega)]
    simp

/-- R147: byte 0 on SDO is the status byte. -/
theorem Transaction.sent_status (t : Transaction) : t.sent 8 = bitsOf t.status := by
  unfold Transaction.sent
  dsimp only
  rw [List.flatMap_cons, List.append_assoc]
  exact List.take_left' (bitsOf_length _)

theorem Reply.bytes_length (r : Reply) : r.bytes.length = 2 + r.data.length := by
  simp only [Reply.bytes, List.length_cons]
  omega

/-! ### What clocking leaves of the link -/

/-- R151: what the end of a transaction leaves of DISCARDED is what its bits have left of it. -/
theorem Link.finish_discarded (l : Link) (t : Transaction) (sdi : Bits) :
    (l.finish t sdi).discarded = (l.clock t sdi).discarded := by
  unfold Link.finish
  rcases (l.clock t sdi).consume_cases t ((t.sdi.length + sdi.length) / 8) with h | ⟨r, -, -, h⟩ <;> rw [h]

/-- R151: where byte 0 was not complete before, DISCARDED is cleared if it is now and the status byte showed it. -/
theorem Link.clock_discarded (l : Link) {t : Transaction} (h : t.sdi.length < 8) (sdi : Bits) :
    (l.clock t sdi).discarded =
      (l.discarded && !(8 ≤ (t.sdi ++ sdi).length && t.status.getLsbD 6)) := by
  simp [Link.clock, Transaction.clocked, Nat.not_le.mpr h]

/-- R151: the first eight bits. -/
theorem Link.clock_first (l : Link) {t : Transaction} (h : t.sdi = []) (byte0 : Byte) : l.clock t (bitsOf byte0) =
    { l with
      discarded := l.discarded && !t.status.getLsbD 6
      txn := some { t with sdi := bitsOf byte0 }
      sdo := bitsOf t.status } := by
  have sent : ({ t with sdi := bitsOf byte0 } : Transaction).sent 8 = bitsOf t.status := Transaction.sent_status _
  simp [Link.clock, Transaction.clocked, h, sent]

/-! ### The request in a transaction -/

/-- The state in which a transaction's request is taken: the link has settled the noted reply (R147). -/
def State.settledLink (s : State) (x : Transaction) (sdi : Bits) : State := s.modLink fun l => l.finish x sdi

theorem exec_transactionEnd {s : State} {x : Transaction} (h : s.link.txn = some x) (sdi : Bits) (straps : BitVec 5)
    (rxdMark : Bool) : exec (.transactionEnd sdi straps rxdMark) s =
      .next ((s.settledLink x sdi).takeRequest straps rxdMark (bytesOf (x.sdi ++ sdi))) := by
  simp only [exec, execTransactionEnd, h, State.settledLink]

/-- R152, cases 1 and 2: without a complete byte, and with NOP in byte 0, nothing is taken. -/
theorem State.takeRequest_nothing (s : State) (straps : BitVec 5) (rxdMark : Bool) {bytes : List Byte}
    (h : bytes = [] ∨ bytes.head? = some Code.nop) : s.takeRequest straps rxdMark bytes = s := by
  cases bytes with
  | nil => rfl
  | cons code params =>
    obtain rfl : code = Code.nop := by simpa using h
    rw [State.takeRequest, if_pos rfl]

/-- R152, cases 4 to 7. -/
theorem State.takeRequest_present (s : State) (straps : BitVec 5) (rxdMark : Bool) {code : Byte} (params : List Byte)
    (nop : code ≠ Code.nop) (restart : code ≠ Code.restart) :
    s.takeRequest straps rxdMark (code :: params) = s.present code (requestAnswer code params) := by
  rw [State.takeRequest, if_neg nop, if_neg restart]

/-! ### The answer by code and parameter bytes -/

/-- R154: a code that Table 10-3 does not have. -/
theorem requestAnswer_unknown {code : Byte} (h : code ∉ requestCodes) (params : List Byte) (s : State) :
    requestAnswer code params s = s.unchanged .unknownRequest := by
  simp only [requestCodes, List.mem_cons, List.not_mem_nil, or_false, not_or] at h
  obtain ⟨-, status, configure, join, leave, -, post, cancel, fetch, takeOutcomes, readPeer, readCounters⟩ := h
  rw [requestAnswer.eq_def, if_neg status, if_neg configure, if_neg join, if_neg leave, if_neg post, if_neg cancel,
    if_neg fetch, if_neg takeOutcomes, if_neg readPeer, if_neg readCounters]

/-- R86: a payload announced with more than 64 bytes is refused, or the station does not take a POST. -/
theorem answerPost_payload {dest cls length : Byte} (h : 64 < length.toNat) (payload other : List Byte) (s : State) :
    answerPost dest cls length payload s = answerPost dest cls length other s := by
  by_cases taken : s.station.state = .active ∨ s.station.state = .lineFault
  · obtain ⟨r, refused⟩ : ∃ r, s.postRefusal dest.toNat cls.toNat length.toNat = some r := by
      unfold State.postRefusal
      split_ifs
      exacts [⟨_, rfl⟩, ⟨_, rfl⟩]
    rw [answerPost_refused taken refused, answerPost_refused taken refused]
  · rw [answerPost_notActive taken, answerPost_notActive taken]

/-- R154: the bytes after the payload that the length byte announces are padding. -/
theorem answerPostBytes_append {dest cls length : Byte} {payload : List Byte}
    (h : length.toNat ≤ 64 → length.toNat ≤ payload.length) (padding : List Byte) (s : State) :
    answerPostBytes dest cls length (payload ++ padding) s = answerPostBytes dest cls length payload s := by
  have more : length.toNat ≤ 64 → length.toNat ≤ (payload ++ padding).length := fun short =>
    (h short).trans (by simp)
  rw [answerPostBytes_eq h, answerPostBytes_eq more]
  by_cases short : length.toNat ≤ 64
  · rw [List.take_append_of_le_length (h short)]
  · exact answerPost_payload (Nat.lt_of_not_le short) _ _ s

/-- R154: with fewer than `n` parameter bytes the answer is MALFORMED; with as many, those after them are padding. -/
def ReadsParameters (s : State) (n : Nat) (answer : List Byte → Answer) : Prop :=
  ∀ params, (params.length < n ∧ answer params = s.unchanged .malformed) ∨
    (n ≤ params.length ∧ ∀ padding, answer (params ++ padding) = answer params)

theorem ReadsParameters.none {s : State} {answer : List Byte → Answer}
    (h : ∀ params padding, answer (params ++ padding) = answer params) : ReadsParameters s 0 answer :=
  fun params => .inr ⟨Nat.zero_le _, h params⟩

theorem ReadsParameters.cons {s : State} {n : Nat} {answer : List Byte → Answer}
    (missing : answer [] = s.unchanged .malformed) (more : ∀ b, ReadsParameters s n fun rest => answer (b :: rest)) :
    ReadsParameters s (n + 1) answer
  | [] => .inl ⟨Nat.succ_pos n, missing⟩
  | b :: rest => (more b rest).imp (fun ⟨few, malformed⟩ => ⟨Nat.succ_lt_succ few, malformed⟩)
      fun ⟨enough, padded⟩ => ⟨Nat.succ_le_succ enough, padded⟩

/-- R154: of a POST the length byte, where it is at most 64, says how many payload bytes there must be. -/
theorem answerPostBytes_reads (dest cls length : Byte) (s : State) :
    ReadsParameters s (if length.toNat ≤ 64 then length.toNat else 0) fun payload =>
      answerPostBytes dest cls length payload s := by
  intro payload
  by_cases short : length.toNat ≤ 64
  · rw [if_pos short]
    rcases Nat.lt_or_ge payload.length length.toNat with few | whole
    · exact .inl ⟨few, if_pos ⟨short, few⟩⟩
    · exact .inr ⟨whole, fun padding => answerPostBytes_append (fun _ => whole) padding s⟩
  · rw [if_neg short]
    exact .inr ⟨Nat.zero_le _, fun padding => answerPostBytes_append (fun h => absurd h short) padding s⟩

/-- R154: a POST's parameters are three bytes and the payload. -/
theorem requestAnswer_post_parameters (params : List Byte) (s : State) :
    (params.length < parametersNeeded Code.post params ∧ requestAnswer Code.post params s = s.unchanged .malformed) ∨
      (parametersNeeded Code.post params ≤ params.length ∧
        ∀ padding, requestAnswer Code.post (params ++ padding) s = requestAnswer Code.post params s) := by
  match params with
  | [] => exact .inl ⟨by decide, rfl⟩
  | [_] => exact .inl ⟨by simp [parametersNeeded], rfl⟩
  | [_, _] => exact .inl ⟨by simp [parametersNeeded], rfl⟩
  | dest :: cls :: length :: payload =>
    have three (n : Nat) : (dest :: cls :: length :: payload).length < 3 + n ↔ payload.length < n := by
      simp only [List.length_cons]
      omega
    refine (answerPostBytes_reads dest cls length s payload).imp ?_ ?_
    · exact fun ⟨few, malformed⟩ => ⟨(three _).mpr few, malformed⟩
    · exact fun ⟨whole, padded⟩ => ⟨not_lt.mp fun few => whole.not_gt ((three _).mp few), padded⟩

/-- R154: fewer parameter bytes than the code's column of Table 10-3 gives, or as many and padding. -/
theorem requestAnswer_parameters {code : Byte} (known : code ∈ requestCodes) (params : List Byte) (s : State) :
    (params.length < parametersNeeded code params ∧ requestAnswer code params s = s.unchanged .malformed) ∨
      (parametersNeeded code params ≤ params.length ∧
        ∀ padding, requestAnswer code (params ++ padding) s = requestAnswer code params s) := by
  have column {n : Nat} (needed : parametersNeeded code params = n)
      (reads : ReadsParameters s n fun params => requestAnswer code params s) := needed ▸ reads params
  have alone (needed : parametersNeeded code params = 0)
      (same : ∀ params padding, requestAnswer code (params ++ padding) s = requestAnswer code params s) :=
    column needed (.none same)
  have one (needed : parametersNeeded code params = 1) (missing : requestAnswer code [] s = s.unchanged .malformed)
      (same : ∀ b rest padding, requestAnswer code (b :: (rest ++ padding)) s = requestAnswer code (b :: rest) s) :=
    column needed (.cons missing fun b => .none (same b))
  simp only [requestCodes, List.mem_cons, List.not_mem_nil, or_false] at known
  rcases known with rfl | rfl | rfl | rfl | rfl | rfl | rfl | rfl | rfl | rfl | rfl | rfl
  · exact alone rfl fun _ _ => rfl
  · exact alone rfl fun _ _ => rfl
  · exact column (n := 8) rfl (.cons rfl fun _ => .cons rfl fun _ => .cons rfl fun _ => .cons rfl fun _ =>
      .cons rfl fun _ => .cons rfl fun _ => .cons rfl fun _ => .cons rfl fun _ => .none fun _ _ => rfl)
  · exact alone rfl fun _ _ => rfl
  · exact one rfl rfl fun _ _ _ => rfl
  · exact alone rfl fun _ _ => rfl
  · exact requestAnswer_post_parameters params s
  · exact column (n := 2) rfl (.cons rfl fun _ => .cons rfl fun _ => .none fun _ _ => rfl)
  · exact alone rfl fun _ _ => rfl
  · exact one rfl rfl fun _ _ _ => rfl
  · exact one rfl rfl fun _ _ _ => rfl
  · exact one rfl rfl fun _ _ _ => rfl

/-- R154: fewer parameter bytes than the code's column of Table 10-3. -/
theorem requestAnswer_malformed {code : Byte} {params : List Byte} (known : code ∈ requestCodes)
    (h : params.length < parametersNeeded code params) (s : State) :
    requestAnswer code params s = s.unchanged .malformed := by
  rcases requestAnswer_parameters known params s with ⟨-, malformed⟩ | ⟨enough, -⟩
  exacts [malformed, absurd h enough.not_gt]

/-- R154: the bytes after those that the code's column of Table 10-3 asks for have no effect. -/
theorem requestAnswer_append {code : Byte} {params : List Byte} (known : code ∈ requestCodes)
    (h : parametersNeeded code params ≤ params.length) (padding : List Byte) (s : State) :
    requestAnswer code (params ++ padding) s = requestAnswer code params s := by
  rcases requestAnswer_parameters known params s with ⟨few, -⟩ | ⟨-, padded⟩
  exacts [absurd few h.not_gt, padded padding]

/-! ### The row of a request -/

/-- Table 10-3: a request's bytes are its code and all the parameters that the code's column asks for. -/
theorem requestBytes_complete {c : Instr} {bytes : List Byte} (h : c.requestBytes = some bytes)
    (posted : ∀ dest cls length payload, c = .post dest cls length payload →
      length.toNat ≤ payload.length ∨ 64 < length.toNat) :
    ∃ code params, bytes = code :: params ∧ code ∈ requestCodes ∧ parametersNeeded code params ≤ params.length := by
  cases c with
  | post dest cls length payload =>
    cases h
    refine ⟨_, _, rfl, by decide, ?_⟩
    have whole := posted _ _ _ _ rfl
    show 3 + (if length.toNat ≤ 64 then length.toNat else 0) ≤ payload.length + 3
    split_ifs <;> omega
  | nop | status | configure | join | leave | restart | cancel | fetch | takeOutcomes | readPeer | readCounters =>
    cases h
    exact ⟨_, _, rfl, by decide, Nat.le_refl _⟩
  | _ => cases h

/-- R152: a request's own row is what its bytes in a transaction ask for; RESTART's operands are the levels then. -/
theorem exec_request {c : Instr} {bytes : List Byte} (h : c.requestBytes = some bytes) {straps : BitVec 5}
    {rxdMark : Bool} (levels : ∀ straps' rxdMark', c = .restart straps' rxdMark' →
      straps' = straps ∧ rxdMark' = rxdMark) (s : State) :
    exec c s = .next (s.takeRequest straps rxdMark bytes) := by
  cases c with
  | restart straps' rxdMark' =>
    obtain ⟨rfl, rfl⟩ := levels _ _ rfl
    cases h
    rfl
  | nop | status | configure | join | leave | post | cancel | fetch | takeOutcomes | readPeer | readCounters =>
    cases h
    rfl
  | _ => cases h

/-- R152: the bytes that follow a complete request are padding. -/
theorem State.takeRequest_append {code : Byte} {params : List Byte} (known : code ∈ requestCodes)
    (h : parametersNeeded code params ≤ params.length) (s : State) (straps : BitVec 5) (rxdMark : Bool)
    (padding : List Byte) :
    s.takeRequest straps rxdMark (code :: params ++ padding) = s.takeRequest straps rxdMark (code :: params) := by
  have same : requestAnswer code (params ++ padding) = requestAnswer code params :=
    funext (requestAnswer_append known h padding)
  simp only [List.cons_append, State.takeRequest, same]

/-- Table 10-3: a request that needs the reply slot is taken by its code. -/
theorem exec_needsSlot {c : Instr} (h : c.needsSlot = true) : ∃ code params, ∀ s : State,
    exec c s = .next (s.present code (requestAnswer code params)) := by
  unfold Instr.needsSlot at h
  split at h
  · next code params bytes =>
    simp only [Bool.and_eq_true, decide_eq_true_eq] at h
    obtain ⟨nop, restart⟩ := h
    have levels : ∀ straps' rxdMark', c = .restart straps' rxdMark' → straps' = 0 ∧ rxdMark' = true := by
      rintro _ _ rfl
      cases bytes
      exact absurd rfl restart
    exact ⟨code, params, fun s => by rw [exec_request bytes levels, s.takeRequest_present _ _ params nop restart]⟩
  · cases h

/-! ### The statements -/

/-- Settles O7: what a request at an occupied slot does, what byte 0 clears, and what the end of a transaction and a
reset leave of the flag. -/
theorem discardedFlag : Obligations.DiscardedFlag := by
  unfold Obligations.DiscardedFlag
  refine ⟨fun c s slot occupied => ?_, fun byte0 s x hx empty => ?_, fun straps rxdMark sdi s x hx before nothing => ?_,
    fun straps rxdMark sdi s x code params hx bytes nop restart occupied => ?_,
    fun straps rxdMark sdi s => ⟨_, _, rfl, rfl, rfl, rfl⟩⟩
  · obtain ⟨code, params, taken⟩ := exec_needsSlot slot
    obtain ⟨r, hr⟩ := Option.isSome_iff_exists.mp occupied
    rw [taken, State.present_occupied s _ _ r hr]
  · simp only [exec, execStatusByteClocked, hx, if_pos empty, State.modLink, Link.clock_first _ empty]
  · rw [exec_transactionEnd hx, State.takeRequest_nothing _ _ _ nothing]
    exact ⟨_, rfl, (Link.finish_discarded _ _ _).trans (Link.clock_discarded _ before _)⟩
  · obtain ⟨r, hr⟩ := Option.isSome_iff_exists.mp occupied
    rw [exec_transactionEnd hx, bytes, State.takeRequest_present _ _ _ _ nop restart,
      State.present_occupied _ _ _ r hr]
    exact ⟨_, rfl, rfl, s.modLink_unchanged fun l => { l.finish x sdi with discarded := true }⟩

/-- Settles O8: the bits on SDO one by one, and what the transaction leaves of the reply slot. -/
theorem transactionEndSettlesReply : Obligations.TransactionEndSettlesReply := by
  unfold Obligations.TransactionEndSettlesReply
  refine ⟨fun r => ?_, fun s => rfl, ?_⟩
  · cases hr : r.result <;> simp [Reply.bytes, ReplyResult.code, hr]
  · intro straps rxdMark s x sdi hx bits nothing
    rw [exec_transactionEnd hx, State.takeRequest_nothing _ _ _ nothing]
    have sdo : (s.settledLink x sdi).link.sdo = x.sent bits.length := Link.finish_sdo _ x sdi
    refine ⟨_, rfl, s.modLink_unchanged _, rfl, rfl, ?_, fun k hk => ?_, ?_⟩
    · rw [sdo, Transaction.sent_length]
    · rw [sdo, x.sent_getElem? hk]
      cases hbyte : k / 8 with
      | zero => rfl
      | succ j => rw [if_neg j.succ_ne_zero]; rfl
    · refine (Link.finish_reply _ x sdi).trans ?_
      cases x.noted with
      | none => rfl
      | some r =>
        dsimp only
        rw [Reply.bytes_length, ← List.length_append]

/-- Settles O9: the bits form the request's bytes, which its own row takes. -/
theorem transactionCarriesRequest : Obligations.TransactionCarriesRequest := by
  unfold Obligations.TransactionCarriesRequest
  refine ⟨fun bytes _ incomplete => bytesOf_flatMap bytes incomplete, ?_⟩
  intro c bytes padding partly sdi straps rxdMark s x request hx incomplete bits levels posted
  obtain ⟨code, params, rfl, known, enough⟩ := requestBytes_complete request posted
  have clocked : bytesOf (x.sdi ++ sdi) = code :: params ++ padding := bits ▸ bytesOf_flatMap _ incomplete
  rw [exec_transactionEnd hx, clocked, State.takeRequest_append known enough]
  exact (exec_request request levels _).symm

/-- Settles O10: neither answer is any block's. -/
theorem unknownAndMalformedRequests : Obligations.UnknownAndMalformedRequests := by
  unfold Obligations.UnknownAndMalformedRequests
  intro straps rxdMark sdi s x code params hx bytes free
  have refused {r : ReplyResult} (nop : code ≠ Code.nop) (restart : code ≠ Code.restart)
      (answer : requestAnswer code params (s.settledLink x sdi) = (s.settledLink x sdi).unchanged r) :
      exec (.transactionEnd sdi straps rxdMark) s =
        .next { s with link := { s.link.finish x sdi with reply := some ⟨code, r, []⟩ } } := by
    rw [exec_transactionEnd hx, bytes, State.takeRequest_present _ _ _ _ nop restart,
      State.present_unchanged _ _ _ _ free answer]
    rfl
  refine ⟨fun unknown => refused ?_ ?_ (requestAnswer_unknown unknown _ _), fun known few =>
    refused ?_ ?_ (requestAnswer_malformed known few _)⟩
  · rintro rfl
    exact unknown (by decide)
  · rintro rfl
    exact unknown (by decide)
  · rintro rfl
    exact absurd few (Nat.not_lt_zero _)
  · rintro rfl
    exact absurd few (Nat.not_lt_zero _)

end Sys2Proof.Machine
end

/-! SUPPORT. STATUS (R141, R156, R164): the reasons for attention and the ten items of the summary. -/

section
namespace Sys2Proof.Machine

-- One proof at a time: a thread for each that waits for the same case split can run the checker out of memory.
set_option Elab.async false

/-! ### Attention -/

/-- R141: a reason holds and its mask bit is on. -/
theorem State.attn_iff (s : State) : s.attn = true ↔
    (s.station.config.mask.outcome = true ∧ s.outcomes.queue ≠ []) ∨
    (s.station.config.mask.inbound = true ∧ s.inbound.records ≠ []) ∨
    (s.station.config.mask.state = true ∧ s.station.stateChange = true) ∨
    (s.station.config.mask.conflict = true ∧ s.station.conflict = true) := by
  simp [State.attn, or_assoc]

/-- R156: with both flags clear the reasons of the station controller do not hold. -/
theorem State.attn_iff_of_flags_clear {s : State} (change : s.station.stateChange = false)
    (conflict : s.station.conflict = false) : s.attn = true ↔
    (s.station.config.mask.outcome = true ∧ s.outcomes.queue ≠ []) ∨
    (s.station.config.mask.inbound = true ∧ s.inbound.records ≠ []) := by
  simp [s.attn_iff, change, conflict]

/-! ### The summary -/

theorem StationState.code_byte (st : StationState) : byte st.code =
    match st with
    | .unjoined => 0
    | .joining => 1
    | .active => 2
    | .leaving => 3
    | .lineFault => 4 := by
  cases st <;> rfl

theorem FaultReason.code_byte (r : FaultReason) : byte r.code =
    match r with
    | .none => 0
    | .addressInUse => 1
    | .lineStuck => 2
    | .collisions => 3 := by
  cases r <;> rfl

/-- R85: the FREE slots, counted by number. -/
theorem State.freeSlots_countP (s : State) :
    s.freeSlots = (List.range 48).countP fun i => (s.slot i).msg = none := by
  rw [s.freeSlots_eq, ← List.countP_eq_length_filter]
  exact List.countP_congr fun i _ => by simp

/-- The state a STATUS leaves: both flags clear, and the summary in the reply slot (R156). -/
def State.reported (s : State) : State :=
  (s.modStation fun st => { st with stateChange := false, conflict := false }).modLink fun l =>
    { l with reply := some ⟨Code.status, .ok, s.summary⟩ }

theorem exec_status {s : State} (free : s.link.reply = none) : exec .status s = .next s.reported :=
  congrArg Host.Outcome.next (s.present_answer Code.status free rfl)

theorem State.reported_unchanged (s : State) : UnchangedBut [.station, .link] s s.reported :=
  (s.modStation_unchanged _).append (State.modLink_unchanged _ _)

/-- Settles O11: the reasons for attention before and after, and the summary item by item. -/
theorem statusReportsAndClears : Obligations.StatusReportsAndClears := by
  unfold Obligations.StatusReportsAndClears
  refine ⟨State.attn_iff, fun s free => ⟨_, exec_status free, s.reported_unchanged, rfl, ?_,
    State.attn_iff_of_flags_clear rfl rfl⟩⟩
  show ({ s.link with reply := some ⟨Code.status, .ok, s.summary⟩ } : Link) = _
  rw [State.summary, State.freeSlots_countP]
  exact congrArg₂ (fun state reason => ({ s.link with reply := some ⟨Code.status, .ok, state :: reason :: _⟩ } : Link))
    (StationState.code_byte _) (FaultReason.code_byte _)

end Sys2Proof.Machine
end

/-! SUPPORT. Every command completes (R160): what lies outside the blocks, the queue, the ticks and the generator, stands
in every operation but the passing of time and the two that draw (R25, R43). -/

section
namespace Sys2Proof.Machine

-- One proof at a time: a thread for each that waits for the same case split can run the checker out of memory.
set_option Elab.async false

/-! ### Nothing drawn -/

/-- The generator, the ticks and the queue of waiting commands stand. -/
structure OutsideStands (s t : State) : Prop where
  generator : t.generator = s.generator
  ticks : t.ticks = s.ticks
  pending : t.pending = s.pending

namespace OutsideStands

theorem refl (s : State) : OutsideStands s s := ⟨rfl, rfl, rfl⟩

theorem trans {s t u : State} (h : OutsideStands s t) (k : OutsideStands t u) : OutsideStands s u :=
  ⟨k.generator.trans h.generator, k.ticks.trans h.ticks, k.pending.trans h.pending⟩

/-- An operation performed on a condition, else nothing. -/
theorem ite {p : Prop} [Decidable p] {s t : State} (h : p → OutsideStands s t) : OutsideStands s (if p then t else s) :=
  ite_keeps (refl s) h

theorem of_unchanged {changed : List Block} {s t : State} (h : UnchangedBut changed s t)
    (generator : .generator ∉ changed := by decide) (ticks : .ticks ∉ changed := by decide)
    (pending : .pending ∉ changed := by decide) : OutsideStands s t :=
  ⟨h .generator generator, h .ticks ticks, h .pending pending⟩

theorem controls {s t : State} (h : Controls s t) : OutsideStands s t := ⟨h.generator, h.ticks, h.pending⟩

theorem settles {s t : State} (h : Settles s t) : OutsideStands s t := controls h.controls

/-- An entry to UNJOINED that sets the state-change flag (R57). -/
theorem unjoinFlagged (s : State) : OutsideStands s s.enterUnjoined.flagChange :=
  controls (s.enterUnjoined_controls.trans (State.flagChange_controls _))

/-- R22 after a change. -/
theorem thenWants {s t : State} (h : OutsideStands s t) : OutsideStands s t.applyWants :=
  h.trans (controls t.applyWants_controls)

theorem resetWith (s : State) (config : ConfigRecord) (reply : Option Reply) (straps : BitVec 5) (rxdMark : Bool) :
    OutsideStands s (s.resetWith config reply straps rxdMark) := ⟨rfl, rfl, rfl⟩

/-! ### Requests -/

theorem configure (a b c d e f g m : Byte) (s : State) :
    OutsideStands s (answerConfigure a b c d e f g m s).state := by
  unfold answerConfigure
  dsimp only
  split_ifs
  exacts [refl s, of_unchanged (s.configured_unchanged (configOf a b c d e f g m)), refl s]

theorem leave (mode : Byte) (s : State) : OutsideStands s (answerLeave mode s).state := by
  unfold answerLeave
  split
  · exact refl s
  split
  · exact refl s
  · unfold State.leaveJoining
    dsimp only
    split_ifs
    exacts [⟨rfl, rfl, rfl⟩, controls s.enterUnjoined_controls]
  · next m _ _ _ =>
    have leaving : OutsideStands s (s.leaving m) := ⟨rfl, rfl, rfl⟩
    refine thenWants (trans ?_ (settles (State.watchQueues_settles _)))
    cases m with
    | drain => exact leaving
    | abandon => exact leaving.trans (settles (State.abandonAll_settles _))
  · have changed : OutsideStands s (s.modStation fun st => { st with leaveMode := some .abandon }) := ⟨rfl, rfl, rfl⟩
    exact ite fun _ => (changed.trans (settles (State.abandonAll_settles _))).thenWants
  · exact (settles s.abandonAll_settles).trans (controls (State.enterUnjoined_controls _))

theorem post (dest cls length : Byte) (payload : List Byte) (s : State) :
    OutsideStands s (answerPostBytes dest cls length payload s).state := by
  unfold answerPostBytes
  split
  · exact refl s
  unfold answerPost
  split
  · exact refl s
  split
  · exact refl s
  split
  exacts [refl s, of_unchanged (s.allocate_unchanged _ _)]

theorem cancel (slot tag : Byte) (s : State) : OutsideStands s (answerCancel slot tag s).state := by
  have resolved := (settles (s.resolve_settles slot.toNat .cancelled)).thenWants
  have marked := settles (State.setMark_settles .cancelled s slot.toNat)
  unfold answerCancel
  split
  · exact refl s
  split
  exacts [refl s, resolved, resolved, marked, marked]

theorem fetch (s : State) : OutsideStands s (answerFetch s).state := by
  unfold answerFetch
  split
  · exact refl s
  · exact ((of_unchanged (s.modInbound_unchanged _)).trans (controls (State.setH_controls _ _))).thenWants

theorem takeOutcomes (max : Byte) (s : State) : OutsideStands s (answerTakeOutcomes max s).state := by
  unfold answerTakeOutcomes
  split_ifs
  exacts [refl s, refl s, settles ((s.modOutcomes_settles _).trans (State.refill_settles _))]

theorem readCounters (clear : Byte) (s : State) : OutsideStands s (answerReadCounters clear s).state := by
  unfold answerReadCounters
  split_ifs
  exacts [refl s, ⟨rfl, rfl, rfl⟩, refl s]

/-! ### Heard frames -/

theorem addressConflict (s : State) : OutsideStands s s.addressConflict := by
  unfold State.addressConflict
  dsimp only
  split_ifs
  · have blamed : OutsideStands s
        ((s.count .addressConflicts).modStation fun st => { st with faultReason := .addressInUse }) := ⟨rfl, rfl, rfl⟩
    exact blamed.trans (unjoinFlagged _)
  · exact ⟨rfl, rfl, rfl⟩

theorem takeValid (s : State) (f : Frame) : OutsideStands s (s.takeValid f) := by
  by_cases own : f.source = s.station.address
  · rw [State.takeValid, if_pos own]
    exact addressConflict s
  · rw [State.takeValid_other own]
    refine (of_unchanged (s.learn_unchanged f)).trans ?_
    by_cases departs : f.kind = .notice .leave
    · rw [State.route, departs]
      exact settles (State.departure_settles _ _)
    · exact of_unchanged (State.route_files _ departs).unchanged

theorem takeFound (s : State) (found : Found) : OutsideStands s (s.takeFound found) := by
  have counted (k : CounterName) := of_unchanged (s.count_unchanged k)
  cases found with
  | noFrame => exact refl s
  | discarded k => exact counted k
  | valid f => exact (counted .framesHeard).trans (takeValid _ f)

theorem endOfFrame (s : State) (rxd : Levels) : OutsideStands s (s.endOfFrame rxd) := by
  have ended := of_unchanged ((s.occupyWindow_unchanged rxd).append (State.lineEnded_unchanged _))
  have taken (t : State) (w : WindowResult) := controls (t.accessEnded_controls w)
  unfold State.endOfFrame
  split
  · exact refl s
  unfold State.endBurst
  split_ifs
  exacts [(ended.trans (takeFound _ _)).trans (taken _ _), ended.trans (taken _ _)]

/-! ### Own frames -/

theorem win (s : State) : OutsideStands s s.win := by
  unfold State.win
  split
  · exact ⟨rfl, rfl, rfl⟩
  · exact of_unchanged ((s.takeMessage_unchanged _ _ _).append (State.drive_unchanged _ _ _))
  · exact thenWants (of_unchanged (s.modAccess_unchanged _))

theorem noticeCompleted (s : State) (kind : FrameKind) : OutsideStands s (s.noticeCompleted kind) := by
  unfold State.noticeCompleted
  split
  · split_ifs
    exacts [unjoinFlagged s, controls s.enterActive_controls, refl s]
  · exact ite fun _ => unjoinFlagged s
  · exact refl s

theorem afterContended (s : State) (kind : FrameKind) : OutsideStands s (s.afterContended kind) := by
  unfold State.afterContended
  split_ifs
  exacts [refl s, controls (s.modAccess_controls _), controls s.contendOrIdle_controls]

theorem completeFrame (s : State) (l : Line) (f : Frame) : OutsideStands s (s.completeFrame l f) := by
  have sent : OutsideStands s
      ((((s.endDrive l).modAccess fun a => { a with n := 0 }).count .framesSent).frameSent f.kind f.h) :=
    ⟨rfl, rfl, rfl⟩
  exact ((sent.trans (settles (State.completeInFlight_settles _))).trans (noticeCompleted _ _)).trans
    (afterContended _ _)

theorem collide (s : State) (l : Line) : OutsideStands s (s.collide l) := by
  have deferred : OutsideStands s
      (((s.endDrive l).modAccess fun a => { a with state := .defer }).count .collisions) := ⟨rfl, rfl, rfl⟩
  have withdrawn := deferred.trans (settles (State.withdrawInFlight_settles _))
  have counted (f : Access → Access) := withdrawn.trans (controls (State.modAccess_controls _ f))
  unfold State.collide
  dsimp only
  split_ifs
  · exact (counted _).trans (controls (State.lineFault_controls _ _))
  · exact (counted _).trans (unjoinFlagged _)
  · exact counted _

/-! ### Timers -/

theorem listenOut (s : State) : OutsideStands s s.listenOut := ite fun _ => thenWants ⟨rfl, rfl, rfl⟩

theorem beaconOut (s : State) : OutsideStands s s.beaconOut := by
  refine ite fun _ => ?_
  dsimp only
  split_ifs
  exacts [thenWants ⟨rfl, rfl, rfl⟩, ⟨rfl, rfl, rfl⟩]

theorem renewalOut (s : State) : OutsideStands s s.renewalOut := ite fun _ => thenWants ⟨rfl, rfl, rfl⟩

theorem presenceOut (s : State) (peer : Nat) : OutsideStands s (s.presenceOut peer) :=
  ite fun _ => (settles (s.makeSilent_settles _)).thenWants

theorem holdOut (s : State) (peer : Nat) : OutsideStands s (s.holdOut peer) :=
  ite fun _ => (settles (s.modPeer_settles _ _)).thenWants

theorem retryOut (s : State) (slot : Nat) : OutsideStands s (s.retryOut slot) :=
  ite fun _ => (settles (s.modMessage_settles _ _)).thenWants

end OutsideStands

/-! ### At most one value drawn -/

/-- `ms` have passed, the queue stands, and at most one value has been taken from the generator (R20). -/
structure Completes (ms : Nat) (s t : State) : Prop where
  pending : t.pending = s.pending
  ticks : t.ticks = s.ticks + ms
  generator : t.generator = s.generator ∨ t.generator = s.generator + 1

theorem OutsideStands.completes {s t : State} (h : OutsideStands s t) : Completes 0 s t :=
  ⟨h.pending, h.ticks, .inl h.generator⟩

/-- The operation follows `ms` of the timebase. -/
theorem OutsideStands.afterElapse {ms : Nat} {s t : State} (h : OutsideStands (s.elapse ms) t) : Completes ms s t :=
  ⟨h.pending, h.ticks, .inl h.generator⟩

theorem Completes.trans {ms : Nat} {s t u : State} (h : Completes ms s t) (k : OutsideStands t u) : Completes ms s u :=
  ⟨k.pending.trans h.pending, k.ticks.trans h.ticks, h.generator.imp k.generator.trans k.generator.trans⟩

/-- The operation follows one that draws nothing. -/
theorem Completes.after {ms : Nat} {s t u : State} (h : OutsideStands s t) (k : Completes ms t u) :
    Completes ms s u :=
  ⟨k.pending.trans h.pending, h.ticks ▸ k.ticks, h.generator ▸ k.generator⟩

/-- R24, R25: the one draw of the gap. -/
theorem State.completeGap_completes (s : State) : Completes 0 s s.completeGap := ⟨rfl, rfl, .inr rfl⟩

/-- R43: a JOIN draws the one value that its epoch is made from. -/
theorem answerJoin_completes (s : State) : Completes 0 s (answerJoin s).state := by
  have drawn : Completes 0 s s.joinCleared := ⟨rfl, rfl, .inr rfl⟩
  unfold answerJoin
  split_ifs
  · exact (OutsideStands.refl s).completes
  · exact (OutsideStands.refl s).completes
  · exact drawn.trans (.controls (State.leaveOff_controls _))

theorem requestAnswer_completes (code : Byte) (params : List Byte) (s : State) :
    Completes 0 s (requestAnswer code params s).state := by
  have stands := (OutsideStands.refl s).completes
  unfold requestAnswer
  refine answer_ite_keeps (OutsideStands.completes ⟨rfl, rfl, rfl⟩) ?_
  refine answer_ite_keeps (by split <;> [exact (OutsideStands.configure _ _ _ _ _ _ _ _ s).completes; exact stands]) ?_
  refine answer_ite_keeps (answerJoin_completes s) ?_
  refine answer_ite_keeps (by split <;> [exact (OutsideStands.leave _ s).completes; exact stands]) ?_
  refine answer_ite_keeps (by split <;> [exact (OutsideStands.post _ _ _ _ s).completes; exact stands]) ?_
  refine answer_ite_keeps (by split <;> [exact (OutsideStands.cancel _ _ s).completes; exact stands]) ?_
  refine answer_ite_keeps (OutsideStands.fetch s).completes ?_
  refine answer_ite_keeps (by split <;> [exact (OutsideStands.takeOutcomes _ s).completes; exact stands]) ?_
  refine answer_ite_keeps (by split <;> [exact answerReadPeer_keeps _ stands; exact stands]) ?_
  exact answer_ite_keeps (by split <;> [exact (OutsideStands.readCounters _ s).completes; exact stands]) stands

theorem State.takeRequest_completes (s : State) (straps : BitVec 5) (rxdMark : Bool) (bytes : List Byte) :
    Completes 0 s (s.takeRequest straps rxdMark bytes) := by
  have linked (t : State) (f : Link → Link) := OutsideStands.of_unchanged (t.modLink_unchanged f)
  unfold State.takeRequest
  split
  · exact (OutsideStands.refl s).completes
  split_ifs
  · exact (OutsideStands.refl s).completes
  · exact (OutsideStands.resetWith s _ _ straps rxdMark).completes
  · unfold State.present
    split
    · exact (linked s _).completes
    · exact (requestAnswer_completes _ _ s).trans (linked _ _)

/-! ### Every command -/

theorem exec_request_completes {c : Instr} {bytes : List Byte} (h : c.requestBytes = some bytes) (s : State) :
    ∃ t, exec c s = .next t ∧ Completes 0 s t := by
  by_cases restarts : ∃ straps rxdMark, c = .restart straps rxdMark
  · obtain ⟨straps, rxdMark, rfl⟩ := restarts
    exact ⟨_, rfl, (OutsideStands.resetWith s _ _ straps rxdMark).completes⟩
  · exact ⟨_, exec_request (straps := 0) (rxdMark := true) h (fun _ _ hc => absurd ⟨_, _, hc⟩ restarts) s,
      s.takeRequest_completes _ _ bytes⟩

/-- One case per row: the operations that the row is made of, in their order. -/
theorem exec_completes (c : Instr) (s : State) : ∃ t, exec c s = .next t ∧ Completes c.elapsed s t := by
  have stands := OutsideStands.refl s
  have reported (ct : Nat) : OutsideStands s (s.reportIdle ct) := .of_unchanged (s.modLine_unchanged _)
  have linked (f : Link → Link) : OutsideStands s (s.modLink f) := .of_unchanged (s.modLink_unchanged f)
  cases c with
  | nop | status | configure | join | leave | restart | post | cancel | fetch | takeOutcomes | readPeer | readCounters =>
    exact exec_request_completes rfl s
  | pinReset straps rxdMark sdi => exact ⟨_, rfl, ((linked _).trans (.resetWith _ _ _ straps rxdMark)).completes⟩
  | transactionStart =>
    refine ⟨_, rfl, OutsideStands.completes ?_⟩
    split_ifs
    exacts [stands, linked _]
  | statusByteClocked byte0 =>
    refine ⟨_, rfl, OutsideStands.completes ?_⟩
    split
    exacts [stands, .ite fun _ => linked _]
  | transactionEnd sdi straps rxdMark =>
    refine ⟨_, rfl, ?_⟩
    split
    exacts [(linked _).completes, .after (linked _) (State.takeRequest_completes _ _ _ _)]
  | activityStart rxd => exact ⟨_, rfl, (OutsideStands.of_unchanged (s.beginActivity_unchanged rxd)).completes⟩
  | endOfFrame rxd =>
    have begun := OutsideStands.of_unchanged (s.beginActivity_unchanged rxd)
    refine ⟨_, rfl, OutsideStands.completes ?_⟩
    split_ifs
    exacts [stands, .endOfFrame s rxd, begun.trans (.endOfFrame _ [])]
  | accessGapComplete => exact ⟨_, rfl, ite_keeps stands.completes fun _ => s.completeGap_completes⟩
  | lineWin => exact ⟨_, rfl, (OutsideStands.ite fun _ => (reported _).trans (.win _)).completes⟩
  | frameComplete rxd =>
    refine ⟨_, rfl, OutsideStands.completes ?_⟩
    split
    exacts [.ite fun _ => .completeFrame _ _ _, stands]
  | collision rxd =>
    refine ⟨_, rfl, OutsideStands.completes ?_⟩
    split
    exacts [.ite fun _ => .collide _ _, stands]
  | replyGap =>
    refine ⟨_, rfl, OutsideStands.completes ?_⟩
    split
    exacts [stands, .ite fun _ => ⟨rfl, rfl, rfl⟩]
  | replyComplete rxd =>
    refine ⟨_, rfl, OutsideStands.completes ?_⟩
    split
    exacts [.ite fun _ => ⟨rfl, rfl, rfl⟩, stands]
  | replyCollision rxd =>
    refine ⟨_, rfl, OutsideStands.completes ?_⟩
    split
    exacts [.ite fun _ => ⟨rfl, rfl, rfl⟩, stands]
  | replyWindowTimeout =>
    have closed (t : State) := OutsideStands.controls t.closeUnanswered_controls
    exact ⟨_, rfl, (OutsideStands.ite fun _ => (reported _).trans (closed _)).completes⟩
  | stuckLine => exact ⟨_, rfl, (OutsideStands.ite fun _ => .controls (s.lineFault_controls _)).completes⟩
  | lineQuiet =>
    have joins (t : State) := OutsideStands.controls
      (((t.placeNotice_controls .join).trans (State.enterActive_controls _)).trans (State.leaveOff_controls _))
    exact ⟨_, rfl, (OutsideStands.ite fun _ => (reported _).trans (joins _)).completes⟩
  | joinListenExpiry ms => exact ⟨_, rfl, (OutsideStands.listenOut _).afterElapse⟩
  | beaconTimerExpiry ms => exact ⟨_, rfl, (OutsideStands.beaconOut _).afterElapse⟩
  | holdRenewalExpiry ms => exact ⟨_, rfl, (OutsideStands.renewalOut _).afterElapse⟩
  | presenceTimeout peer ms => exact ⟨_, rfl, (OutsideStands.presenceOut _ peer).afterElapse⟩
  | holdTimerExpiry peer ms => exact ⟨_, rfl, (OutsideStands.holdOut _ peer).afterElapse⟩
  | retryTimerExpiry slot ms => exact ⟨_, rfl, (OutsideStands.retryOut _ slot).afterElapse⟩

/-! ### The statements -/

/-- Settles O2: command by command. -/
theorem everyCommandCompletes : Obligations.EveryCommandCompletes := by
  unfold Obligations.EveryCommandCompletes
  intro c s
  obtain ⟨t, taken, pending, ticks, generator⟩ := exec_completes c s
  exact ⟨t, taken, pending, ticks, generator⟩

/-- Settles O1: a step is its case of a queue that is not empty. -/
theorem stepTakesFrontCommand : Obligations.StepTakesFrontCommand := by
  unfold Obligations.StepTakesFrontCommand
  exact fun _ _ _ => rfl

end Sys2Proof.Machine
end

/-! SUPPORT. The link status byte (R148, R162): its bits, and its value after the resets. -/

section
namespace Sys2Proof.Machine

/-! ### The byte -/

/-- Table 10-2: the status byte, bit by bit, with the state's code in its low bits. -/
theorem State.statusByte_fields (s : State) :
    s.statusByte.getLsbD 7 = s.link.reply.isSome ∧ s.statusByte.getLsbD 6 = s.link.discarded ∧
      s.statusByte.getLsbD 5 = s.attn ∧ s.statusByte.getLsbD 4 = false ∧ s.statusByte.getLsbD 3 = false ∧
      s.statusByte.extractLsb' 0 3 = BitVec.ofNat 3 s.station.state.code := by
  unfold State.statusByte
  refine ⟨?_, ?_, ?_, ?_, ?_, BitVec.extractLsb'_append_eq_right⟩ <;> simp only [BitVec.getLsbD_append] <;> simp

/-- Table 10-2 and Table 10-5 give a state the same code. -/
theorem StationState.code_three_bits (st : StationState) :
    (BitVec.ofNat 3 st.code).toNat = st.code ∧ (BitVec.ofNat 3 st.code).setWidth 8 = byte st.code := by
  cases st <;> exact ⟨rfl, rfl⟩

/-- R59, R60: after a reset the status byte shows its reply alone. -/
theorem State.resetWith_statusByte (s : State) (config : ConfigRecord) (reply : Option Reply) (straps : BitVec 5)
    (rxdMark : Bool) :
    (s.resetWith config reply straps rxdMark).statusByte = if reply.isSome then 0x80 else 0x00 := by
  have fields : (s.resetWith config reply straps rxdMark).statusByte =
      (((BitVec.ofBool reply.isSome ++ 0#1) ++ 0#1) ++ 0#2) ++ 0#3 := by
    rw [State.statusByte, s.resetWith_attn]
    rfl
  rw [fields]
  cases reply.isSome <;> decide

/-- R147: byte 0 on SDO is the status byte, whatever is clocked after it. -/
theorem Transaction.sent_take (t : Transaction) (n : Nat) : (t.sent (n + 8)).take 8 = bitsOf t.status := by
  unfold Transaction.sent
  dsimp only
  rw [List.take_take, Nat.min_eq_left (Nat.le_add_left 8 n), List.flatMap_cons, List.append_assoc]
  exact List.take_left' (bitsOf_length _)

/-! ### The obligation -/

/-- R147: SEL falls. -/
theorem exec_transactionStart_of_selHigh {s : State} (h : s.link.selLow = false) : exec .transactionStart s =
    .next (s.modLink fun l => { l with selLow := true, sdo := [], txn := some ⟨s.statusByte, l.reply, []⟩ }) := by
  show Host.Outcome.next _ = _
  rw [if_neg (by simp [h])]

/-- Settles O6: the byte by its fields, at SEL falling and after the resets. -/
theorem statusByteLayout : Obligations.StatusByteLayout := by
  unfold Obligations.StatusByteLayout
  refine ⟨fun s h => ?_, ?_, ?_, fun s active reply attn discarded => ?_⟩
  · obtain ⟨bit7, bit6, bit5, bit4, bit3, low⟩ := s.statusByte_fields
    obtain ⟨number, summary⟩ := s.station.state.code_three_bits
    refine ⟨_, _, exec_transactionStart_of_selHigh h, rfl, State.modLink_unchanged _ _, rfl, rfl,
      Transaction.sent_take _, bit7, bit6, bit5, bit4, bit3, ?_, ?_⟩
    · rw [low, number]
      rfl
    · rw [low, summary]
      rfl
  · rintro straps rxdMark sdi s t ⟨⟩
    exact State.resetWith_statusByte _ _ none straps rxdMark
  · rintro straps rxdMark s t ⟨⟩
    exact State.resetWith_statusByte _ _ (some _) straps rxdMark
  · rw [State.statusByte, active, reply, attn, discarded]
    rfl

end Sys2Proof.Machine
end

/-! SUPPORT. The line frame (R11, R161): its bytes and its CRC as Table 10-1 gives them, and the fields that R13 reads
back from them. -/

section
namespace Sys2Proof.Machine

/-! ### The CRC -/

/-- R11: the bits of all the bytes, most significant first, go through the remainder one by one. -/
theorem crc_eq_foldl_bits (bytes : List Byte) : crc bytes = (bytes.flatMap bitsOf).foldl crcBit 0xFFFF#16 := by
  rw [List.foldl_flatMap]
  exact congrArg (fun step => bytes.foldl step 0xFFFF#16) (funext₂ fun r b => List.foldl_map.symm)

/-- R11: step 4, by the bit that leaves the remainder. -/
theorem crcBit_eq (r : BitVec 16) (d : Bool) :
    crcBit r d = if r.getMsbD 0 ≠ d then (r <<< 1) ^^^ 0x1021#16 else r <<< 1 :=
  if_congr bne_iff_ne rfl rfl

/-- R11: the high byte goes first. -/
theorem crcBytes_eq (bytes : List Byte) :
    crcBytes bytes = [byte ((crc bytes).toNat / 256), byte ((crc bytes).toNat % 256)] := by
  have high (r : BitVec 16) : r.extractLsb' 8 8 = byte (r.toNat / 256) :=
    BitVec.eq_of_toNat_eq (by simp [Nat.shiftRight_eq_div_pow])
  have low (r : BitVec 16) : r.extractLsb' 0 8 = byte (r.toNat % 256) := BitVec.eq_of_toNat_eq (by simp)
  rw [crcBytes, high, low]

/-! ### Numbers in bytes -/

/-- Two fields make up a word exactly if they are the word's parts. -/
theorem append_eq_iff {m n : Nat} (hi : BitVec m) (lo : BitVec n) (b : BitVec (m + n)) :
    hi ++ lo = b ↔ hi = b.extractLsb' n m ∧ lo = b.extractLsb' 0 n := by
  constructor
  · rintro rfl
    exact ⟨BitVec.extractLsb'_append_eq_left.symm, BitVec.extractLsb'_append_eq_right.symm⟩
  · rintro ⟨rfl, rfl⟩
    exact BitVec.extractLsb'_append_extractLsb'

theorem ofNat_eq_iff {n x : Nat} (h : x < 2 ^ n) (b : BitVec n) : BitVec.ofNat n x = b ↔ x = b.toNat := by
  rw [← BitVec.toNat_inj, BitVec.toNat_ofNat, Nat.mod_eq_of_lt h]

/-- Two fields as one number. -/
theorem append_ofNat_eq_ofNat {m n hi lo : Nat} (hhi : hi < 2 ^ m) (hlo : lo < 2 ^ n) :
    BitVec.ofNat m hi ++ BitVec.ofNat n lo = BitVec.ofNat (m + n) (2 ^ n * hi + lo) := by
  have inRange : 2 ^ n * hi + lo < 2 ^ (m + n) := by
    calc 2 ^ n * hi + lo < 2 ^ n * (hi + 1) := by rw [Nat.mul_succ]; omega
      _ ≤ 2 ^ n * 2 ^ m := Nat.mul_le_mul_left _ hhi
      _ = 2 ^ (m + n) := by rw [Nat.add_comm, Nat.pow_add]
  apply BitVec.eq_of_toNat_eq
  rw [BitVec.toNat_append, BitVec.toNat_ofNat, BitVec.toNat_ofNat, BitVec.toNat_ofNat, Nat.mod_eq_of_lt hhi,
    Nat.mod_eq_of_lt hlo, Nat.mod_eq_of_lt inRange, ← Nat.shiftLeft_add_eq_or_of_lt hlo, Nat.shiftLeft_eq, Nat.mul_comm]

/-- H above two zero bits, as a number. -/
theorem flagField_eq (h : Bool) : BitVec.ofBool h ++ 0#2 = BitVec.ofNat 3 (if h then 4 else 0) := by
  cases h <;> rfl

/-! ### The fields of a well-formed frame -/

/-- What R13 asks of a frame of this kind: where it may go, and what its sequence and its length may be. -/
def FrameKind.Allows (dest seq length : Nat) : FrameKind → Prop
  | .data => dest ≠ 31
  | .datagram => seq = 0
  | .ack => dest ≠ 31 ∧ length = 0
  | .refuse => dest ≠ 31 ∧ length = 0
  | .notice _ => dest = 31 ∧ seq = 0 ∧ length = 0

theorem Frame.wellFormed_iff (f : Frame) : f.wellFormed = true ↔
    f.dest ≤ 31 ∧ (1 ≤ f.source ∧ f.source ≤ 30) ∧ f.epoch < 16 ∧ f.seq < 256 ∧ f.payload.length ≤ 64 ∧
      f.kind.Allows f.dest f.seq f.payload.length := by
  obtain ⟨kind, dest, h, source, epoch, seq, payload⟩ := f
  cases kind <;> simp [Frame.wellFormed, FrameKind.Allows, and_assoc]

theorem FrameKind.code_lt (k : FrameKind) : k.code < 2 ^ 3 := by cases k <;> simp [FrameKind.code]

theorem FrameKind.reasonCode_lt (k : FrameKind) : k.reasonCode < 2 ^ 4 := by
  cases k with
  | notice r => cases r <;> decide
  | _ => decide

theorem FrameKind.reasonCode_eq (k : FrameKind) : k.reasonCode =
    match k with
    | .notice .beacon => 1
    | .notice .hold => 2
    | .notice .leave => 3
    | _ => 0 := by
  cases k with
  | notice r => cases r <;> rfl
  | _ => rfl

/-- R161: the bytes of a well-formed frame before its CRC, as numbers. -/
theorem Frame.body_eq_numbers {f : Frame} (h : f.wellFormed = true) : f.body =
    [byte (32 * f.kind.code + f.dest), byte ((if f.h then 128 else 0) + f.source),
      byte (16 * f.epoch + f.kind.reasonCode), byte f.seq, byte f.payload.length] ++ f.payload := by
  obtain ⟨dest, ⟨-, source⟩, epoch, -⟩ := f.wellFormed_iff.mp h
  have byte0 : f.byte0 = byte (32 * f.kind.code + f.dest) := append_ofNat_eq_ofNat f.kind.code_lt (by omega)
  have byte1 : f.byte1 = byte ((if f.h then 128 else 0) + f.source) := by
    rw [Frame.byte1, flagField_eq, append_ofNat_eq_ofNat (by split_ifs <;> decide) (by omega)]
    cases f.h <;> rfl
  have byte2 : f.byte2 = byte (16 * f.epoch + f.kind.reasonCode) := append_ofNat_eq_ofNat epoch f.kind.reasonCode_lt
  rw [Frame.body, byte0, byte1, byte2]
  rfl

/-! ### Reading the fields back -/

/-- R13: the kind that a kind code and a reason field give, where the kind allows the other fields. -/
def kindOf (code dest reason : Nat) (seq len : Byte) : Option FrameKind :=
  match code with
  | 0 => if dest = 31 ∨ reason ≠ 0 then none else some .data
  | 1 => if reason ≠ 0 ∨ seq ≠ 0 then none else some .datagram
  | 2 => if dest = 31 ∨ reason ≠ 0 ∨ len ≠ 0 then none else some .ack
  | 3 => if dest = 31 ∨ reason ≠ 0 ∨ len ≠ 0 then none else some .refuse
  | 4 => if dest ≠ 31 ∨ seq ≠ 0 ∨ len ≠ 0 then none else (reasonOf reason).map .notice
  | _ => none

theorem reasonOf_eq_some_iff (code : Nat) (r : Reason) : reasonOf code = some r ↔ code = r.code := by
  constructor
  · intro h
    unfold reasonOf at h
    split at h <;> cases h <;> rfl
  · rintro rfl
    cases r <;> rfl

theorem toNat_eq_zero_iff (b : Byte) : b.toNat = 0 ↔ b = 0#8 := by rw [← BitVec.toNat_inj]; rfl

/-- R13: a kind is read exactly from its own code and reason field, where it allows the other fields. -/
theorem kindOf_eq_some_iff (code dest reason : Nat) (seq len : Byte) (k : FrameKind) :
    kindOf code dest reason seq len = some k ↔
      code = k.code ∧ reason = k.reasonCode ∧ k.Allows dest seq.toNat len.toNat := by
  constructor
  · intro h
    unfold kindOf at h
    split at h
    case h_5 =>
      split_ifs at h with fault
      obtain ⟨r, hr, rfl⟩ := Option.map_eq_some_iff.mp h
      refine ⟨rfl, (reasonOf_eq_some_iff _ _).mp hr, ?_⟩
      simpa [FrameKind.Allows, toNat_eq_zero_iff] using fault
    case h_6 => cases h
    all_goals
      split_ifs at h with fault
      cases h
      simp_all [FrameKind.Allows, FrameKind.code, FrameKind.reasonCode]
  · rintro ⟨rfl, rfl, allowed⟩
    cases k <;> simp_all [kindOf, FrameKind.Allows, FrameKind.code, FrameKind.reasonCode, toNat_eq_zero_iff,
      reasonOf_eq_some_iff]

/-- R13: the checks on the fields that are the same in every kind, and then the kind's own. -/
theorem fieldCheck_eq (b0 b1 b2 seq len : Byte) (payload : List Byte) : fieldCheck b0 b1 b2 seq len payload =
    if b1.extractLsb' 5 2 ≠ 0#2 ∨ len.toNat ≠ payload.length ∨ (b1.extractLsb' 0 5).toNat = 0 ∨
        (b1.extractLsb' 0 5).toNat = 31 then none
    else (kindOf (b0.extractLsb' 5 3).toNat (b0.extractLsb' 0 5).toNat (b2.extractLsb' 0 4).toNat seq len).map
      fun kind => ⟨kind, (b0.extractLsb' 0 5).toNat, b1.getLsbD 7, (b1.extractLsb' 0 5).toNat,
        (b2.extractLsb' 4 4).toNat, seq.toNat, payload⟩ := by
  unfold fieldCheck kindOf
  rw [ite_or, ite_or, ite_or]
  refine if_congr Iff.rfl rfl (if_congr Iff.rfl rfl ?_)
  rw [ite_or]
  generalize (b0.extractLsb' 5 3).toNat = code
  refine if_congr Iff.rfl rfl (if_congr Iff.rfl rfl ?_)
  match code with
  | 0 | 1 | 2 | 3 | 4 =>
    simp only [apply_ite (Option.map _), Option.map_map, Option.map_none, Option.map_some, Function.comp_def]
  | _ + 5 => rfl

/-! ### The bytes and their fields (Table 10-1) -/

theorem Frame.byte0_eq_iff {f : Frame} (dest : f.dest < 2 ^ 5) (b : Byte) : f.byte0 = b ↔
    f.kind.code = (b.extractLsb' 5 3).toNat ∧ f.dest = (b.extractLsb' 0 5).toNat := by
  rw [← ofNat_eq_iff f.kind.code_lt, ← ofNat_eq_iff dest]
  exact append_eq_iff (m := 3) (n := 5) _ _ b

theorem Frame.byte1_eq_iff {f : Frame} (source : f.source < 2 ^ 5) (b : Byte) : f.byte1 = b ↔
    (f.h = b.getLsbD 7 ∧ b.extractLsb' 5 2 = 0#2) ∧ f.source = (b.extractLsb' 0 5).toNat := by
  have top : (b.extractLsb' 5 3).extractLsb' 2 1 = BitVec.ofBool (b.getLsbD 7) := by revert b; decide
  have middle : (b.extractLsb' 5 3).extractLsb' 0 2 = b.extractLsb' 5 2 := by revert b; decide
  have flag : BitVec.ofBool f.h = BitVec.ofBool (b.getLsbD 7) ↔ f.h = b.getLsbD 7 := BitVec.ofBool_eq_iff_eq
  rw [← ofNat_eq_iff source, eq_comm (b := 0#2), ← middle, ← flag, ← top, ← append_eq_iff]
  exact append_eq_iff (m := 3) (n := 5) _ _ b

theorem Frame.byte2_eq_iff {f : Frame} (epoch : f.epoch < 2 ^ 4) (b : Byte) : f.byte2 = b ↔
    f.epoch = (b.extractLsb' 4 4).toNat ∧ f.kind.reasonCode = (b.extractLsb' 0 4).toNat := by
  rw [← ofNat_eq_iff epoch, ← ofNat_eq_iff f.kind.reasonCode_lt]
  exact append_eq_iff (m := 4) (n := 4) _ _ b

/-- R13: what the checks take is a well-formed frame with these bytes, and every such frame. -/
theorem fieldCheck_eq_some_iff {payload : List Byte} (room : payload.length ≤ 64) (b0 b1 b2 seq len : Byte)
    (f : Frame) : fieldCheck b0 b1 b2 seq len payload = some f ↔
      f.wellFormed = true ∧ f.body = b0 :: b1 :: b2 :: seq :: len :: payload := by
  rw [fieldCheck_eq, Option.ite_none_left_eq_some, Option.map_eq_some_iff, f.wellFormed_iff, Frame.body]
  simp only [List.cons.injEq, not_or, ne_eq, not_not]
  constructor
  · rintro ⟨⟨zeros, length, source, source'⟩, kind, read, rfl⟩
    obtain ⟨code, reason, allowed⟩ := (kindOf_eq_some_iff _ _ _ _ _ _).mp read
    have destRange := (b0.extractLsb' 0 5).isLt
    have sourceRange : 1 ≤ (b1.extractLsb' 0 5).toNat ∧ (b1.extractLsb' 0 5).toNat ≤ 30 := by
      have := (b1.extractLsb' 0 5).isLt
      omega
    have epochRange := (b2.extractLsb' 4 4).isLt
    refine ⟨⟨Nat.le_of_lt_succ destRange, sourceRange, epochRange, seq.isLt, room, ?_⟩, ?_, ?_, ?_, ?_, ?_, rfl⟩
    · rwa [← length]
    · exact (Frame.byte0_eq_iff destRange b0).mpr ⟨code.symm, rfl⟩
    · exact (Frame.byte1_eq_iff (sourceRange.2.trans_lt (by decide)) b1).mpr ⟨⟨rfl, zeros⟩, rfl⟩
    · exact (Frame.byte2_eq_iff epochRange b2).mpr ⟨rfl, reason.symm⟩
    · exact (ofNat_eq_iff seq.isLt seq).mpr rfl
    · exact (ofNat_eq_iff (room.trans_lt (by decide)) len).mpr length.symm
  · rintro ⟨⟨dest, source, epoch, seqRange, -, allowed⟩, byte0, byte1, byte2, seqByte, lenByte, rfl⟩
    obtain ⟨code, dest⟩ := (Frame.byte0_eq_iff (by omega) b0).mp byte0
    obtain ⟨⟨h, zeros⟩, source'⟩ := (Frame.byte1_eq_iff (by omega) b1).mp byte1
    obtain ⟨epoch, reason⟩ := (Frame.byte2_eq_iff epoch b2).mp byte2
    have seqNumber := (ofNat_eq_iff seqRange seq).mp seqByte
    have lenNumber := (ofNat_eq_iff (by omega) len).mp lenByte
    refine ⟨⟨zeros, lenNumber.symm, by omega, by omega⟩, f.kind, ?_, ?_⟩
    · rw [kindOf_eq_some_iff, ← dest, ← seqNumber, ← lenNumber]
      exact ⟨code.symm, reason.symm, allowed⟩
    · rw [← dest, ← h, ← source', ← epoch, ← seqNumber]

/-- R13, R161: the bytes before the CRC read as a frame exactly if it is well formed and has those bytes. -/
theorem parseBody_eq_some_iff {body : List Byte} (room : body.length ≤ 69) (f : Frame) :
    parseBody body = some f ↔ f.wellFormed = true ∧ f.body = body := by
  unfold parseBody
  split
  · simp only [List.length_cons] at room
    exact fieldCheck_eq_some_iff (by omega) _ _ _ _ _ f
  · next short =>
    refine iff_of_false nofun fun frame => ?_
    exact short _ _ _ _ _ _ frame.2.symm

end Sys2Proof.Machine
end

/-! SUPPORT. How a burst is judged (R5, R12, R13): the checks in their order, and the bursts that are a valid frame. -/

section
namespace Sys2Proof.Machine

theorem Frame.bytes_length (f : Frame) : f.bytes.length = f.payload.length + 7 := by
  simp [Frame.bytes, Frame.body, crcBytes]

theorem Frame.wellFormed_bytes_length {f : Frame} (h : f.wellFormed = true) :
    7 ≤ f.bytes.length ∧ f.bytes.length ≤ 71 := by
  obtain ⟨-, -, -, -, room, -⟩ := f.wellFormed_iff.mp h
  rw [f.bytes_length]
  omega

/-- The last two characters of a frame are its CRC (R161). -/
theorem Frame.bytes_take (f : Frame) : f.bytes.take (f.bytes.length - 2) = f.body :=
  List.take_left' (by simp [f.bytes_length, Frame.body])

/-! ### The checks in their order -/

theorem Burst.found_empty {b : Burst} (h : b.count = 0) : b.found = .noFrame := if_pos h

theorem Burst.found_faulted {b : Burst} (nonempty : b.count ≠ 0) (h : b.faulted = true) :
    b.found = .discarded .framingErrors := (if_neg nonempty).trans (if_pos h)

theorem Burst.found_length {b : Burst} (nonempty : b.count ≠ 0) (sound : b.faulted = false)
    (h : b.count < 7 ∨ 71 < b.count) : b.found = .discarded .malformed :=
  (if_neg nonempty).trans ((if_neg (by simp [sound])).trans (if_pos h))

section
variable {b : Burst} (counted : b.bytes.length = min b.count 71) (low : 7 ≤ b.count) (high : b.count ≤ 71)
  (sound : b.faulted = false)
include counted low high sound

/-- R12: past the checks on the characters, the CRC decides and then the fields. -/
theorem Burst.found_whole : b.found =
    if b.bytes ≠ b.bytes.take (b.count - 2) ++ crcBytes (b.bytes.take (b.count - 2)) then .discarded .crcErrors
    else ((parseBody (b.bytes.take (b.count - 2))).map Found.valid).getD (.discarded .malformed) := by
  have length : b.bytes.length = b.count := counted.trans (min_eq_left high)
  have crc (check : List Byte) :
      b.bytes.drop (b.count - 2) ≠ check ↔ b.bytes ≠ b.bytes.take (b.count - 2) ++ check := by
    conv_rhs => lhs; rw [← List.take_append_drop (b.count - 2) b.bytes]
    rw [ne_eq, ne_eq, List.append_cancel_left_eq]
  unfold Burst.found
  rw [length, if_neg (by omega), if_neg (by simp [sound]), if_neg (show ¬ (b.count < 7 ∨ 71 < b.count) by omega)]
  refine if_congr (crc _) rfl ?_
  cases parseBody (b.bytes.take (b.count - 2)) <;> rfl

theorem Burst.found_wrong_crc (h : b.bytes ≠ b.bytes.take (b.count - 2) ++ crcBytes (b.bytes.take (b.count - 2))) :
    b.found = .discarded .crcErrors :=
  (Burst.found_whole counted low high sound).trans (if_pos h)

/-- R12, R13: of a burst with a right CRC, what a frame's bytes are found as. -/
theorem Burst.found_right_crc (h : b.bytes = b.bytes.take (b.count - 2) ++ crcBytes (b.bytes.take (b.count - 2))) :
    (∀ f : Frame, f.wellFormed = true → b.bytes = f.bytes → b.found = .valid f) ∧
      ((∀ f : Frame, f.wellFormed = true → b.bytes ≠ f.bytes) → b.found = .discarded .malformed) := by
  have found := (Burst.found_whole counted low high sound).trans (if_neg (not_not.mpr h))
  have reads := parseBody_eq_some_iff (body := b.bytes.take (b.count - 2)) (by rw [List.length_take]; omega)
  constructor
  · intro f formed bytes
    have body : f.body = b.bytes.take (b.count - 2) := by
      rw [← f.bytes_take, ← bytes, counted, min_eq_left high]
    rw [found, (reads f).mpr ⟨formed, body⟩]
    rfl
  · intro noFrame
    have unread : parseBody (b.bytes.take (b.count - 2)) = none := by
      refine Option.eq_none_iff_forall_ne_some.mpr fun f read => ?_
      obtain ⟨formed, body⟩ := (reads f).mp read
      exact noFrame f formed (h.trans (by rw [← body]; rfl))
    rw [found, unread]
    rfl

end

/-! ### The bursts that are a valid frame -/

/-- R5, R12: a burst with the bytes of a well-formed frame in good characters is that frame. -/
theorem Burst.found_of_frame {b : Burst} {f : Frame} (formed : f.wellFormed = true) (bytes : b.bytes = f.bytes)
    (count : b.count = f.bytes.length) (sound : b.faulted = false) : b.found = .valid f := by
  obtain ⟨low, high⟩ := Frame.wellFormed_bytes_length formed
  have counted : b.bytes.length = min b.count 71 := by rw [bytes, count, min_eq_left high]
  refine (Burst.found_right_crc counted (by omega) (by omega) sound ?_).1 f formed bytes
  rw [bytes, count, f.bytes_take]
  rfl

/-- R12, R13: a burst that is a valid frame has its bytes, in good characters, and the frame is well formed. -/
theorem Burst.frame_of_found {b : Burst} {f : Frame} (h : b.found = .valid f)
    (counted : b.bytes.length = min b.count 71) :
    f.wellFormed = true ∧ b.bytes = f.bytes ∧ b.count = f.bytes.length ∧ b.faulted = false := by
  have nonempty : b.count ≠ 0 := fun empty => nomatch (Burst.found_empty empty).symm.trans h
  have sound : b.faulted = false :=
    Bool.eq_false_iff.mpr fun faulted => nomatch (Burst.found_faulted nonempty faulted).symm.trans h
  have range : ¬ (b.count < 7 ∨ 71 < b.count) :=
    fun outside => nomatch (Burst.found_length nonempty sound outside).symm.trans h
  have low : 7 ≤ b.count := by omega
  have high : b.count ≤ 71 := by omega
  have right : b.bytes = b.bytes.take (b.count - 2) ++ crcBytes (b.bytes.take (b.count - 2)) := by
    by_contra wrong
    exact nomatch (Burst.found_wrong_crc counted low high sound wrong).symm.trans h
  obtain ⟨valid, malformed⟩ := Burst.found_right_crc counted low high sound right
  have ⟨g, formed, bytes⟩ : ∃ g : Frame, g.wellFormed = true ∧ b.bytes = g.bytes := by
    by_contra noFrame
    exact nomatch (malformed fun g formed bytes => noFrame ⟨g, formed, bytes⟩).symm.trans h
  obtain rfl : g = f := Found.valid.inj ((valid g formed bytes).symm.trans h)
  exact ⟨formed, bytes, by rw [← bytes, counted, min_eq_left high], sound⟩

end Sys2Proof.Machine
end

/-! SUPPORT. Characters on the line (R1, R3, R4): the levels of a frame on TXD, and what a receiver that waits makes of
the levels of characters, of a noise start bit and of a missing stop bit. -/

section
namespace Sys2Proof.Machine

/-! ### Levels of characters -/

/-- R1: a start bit at space, the data bits least significant first, a stop bit at mark. -/
theorem charLevels_getElem? (b : Byte) {j : Nat} (hj : j < 20) : (charLevels b)[j]? =
    some (if j < 2 then false else if j < 18 then b.getLsbD (j / 2 - 1) else true) := by
  interval_cases j <;> rfl

theorem levelsOf_cons (b : Byte) (bytes : List Byte) : levelsOf (b :: bytes) = charLevels b ++ levelsOf bytes :=
  List.flatMap_cons

theorem levelsOf_length (bytes : List Byte) : (levelsOf bytes).length = 20 * bytes.length := by
  induction bytes with
  | nil => rfl
  | cons b bytes ih =>
    rw [levelsOf_cons, List.length_append, charLevels_length, ih, List.length_cons]
    omega

/-- R1: the characters follow each other back to back. -/
theorem levelsOf_getElem? (bytes : List Byte) {k j : Nat} (hk : k < bytes.length) (hj : j < 20) :
    (levelsOf bytes)[20 * k + j]? = (charLevels (bytes.getD k 0))[j]? := by
  induction bytes generalizing k with
  | nil => cases hk
  | cons b bytes ih =>
    rw [levelsOf_cons]
    cases k with
    | zero => rw [Nat.mul_zero, Nat.zero_add, List.getElem?_append_left hj]; rfl
    | succ k =>
      have later : 20 * (k + 1) + j = 20 + (20 * k + j) := by omega
      rw [later, List.getElem?_append_right (by rw [charLevels_length]; omega), charLevels_length,
        Nat.add_sub_cancel_left, ih (Nat.lt_of_succ_lt_succ hk)]
      rfl

/-! ### TXD -/

theorem State.de_iff (s : State) : s.de = true ↔ s.access.state = .sending ∨ s.access.state = .replying := by
  simp [State.de]

theorem State.txd_undriven {s : State} (h : s.de = false) : s.txd = [] := if_neg (by simp [h])

/-- R1: while DE is asserted, TXD carries the driven frame. -/
theorem State.txd_driven {s : State} {st : AccessState} {f : Frame} (h : Drives s st f)
    (drives : st = .sending ∨ st = .replying) : s.de = true ∧ s.txd = levelsOf f.bytes := by
  obtain ⟨rfl, frame⟩ := h
  have de := s.de_iff.mpr drives
  refine ⟨de, ?_⟩
  rw [State.txd, if_pos de, frame]
  rfl

/-! ### Half bit times before the end of the burst -/

/-- R4: the line's class. -/
theorem Line.idle_iff (l : Line) : l.idle = true ↔ l.rxd = true ∧ ∀ cells byte, l.receiver ≠ .receiving cells byte := by
  obtain ⟨rxd, receiver, quiet, burst⟩ := l
  cases receiver <;> simp [Line.idle, Receiver.busy]

/-- R5: only idle ends a burst. -/
theorem Line.not_over_of_active {l : Line} (h : l.idle = false) : l.over = false := by simp [Line.over, h]

theorem Line.not_over_of_receiving {l : Line} {cells : Nat} {byte : Byte} (h : l.receiver = .receiving cells byte) :
    l.over = false := Line.not_over_of_active (by simp [Line.idle, Receiver.busy, h])

theorem Line.hearAll_cons {l : Line} (h : l.over = false) (mark : Bool) (rest : Levels) :
    l.hearAll (mark :: rest) = (l.hear mark).hearAll rest := by
  simp [Line.hearAll, h]

/-- R3: once the start bit has stood, a character is received to its end. -/
theorem Line.hearAll_inCharacter (rxd : Levels) {l : Line} {cells : Nat} {byte : Byte}
    (h : l.receiver = .receiving cells byte) (started : 2 ≤ cells) (inside : cells + rxd.length ≤ 20) :
    l.hearAll rxd = rxd.foldl Line.hear l := by
  induction rxd generalizing l cells byte with
  | nil => rfl
  | cons mark rest ih =>
    rw [List.length_cons] at inside
    rw [Line.hearAll_cons (Line.not_over_of_receiving h), List.foldl_cons]
    by_cases last : cells = 19
    · obtain rfl : rest = [] := List.eq_nil_of_length_eq_zero (by omega)
      rfl
    · have next : ∃ byte', (l.hear mark).receiver = .receiving (cells + 1) byte' := by
        rw [Line.hear_receiver, h, Receiver.next, if_neg (by omega), if_neg (show ¬ 20 ≤ cells + 1 by omega)]
        split_ifs
        exacts [⟨_, rfl⟩, ⟨_, rfl⟩]
      obtain ⟨byte', next⟩ := next
      exact ih next (by omega) (by omega)

/-! ### Characters heard -/

/-- R3: from mark, ten bit times with a start bit form the sampled character, and end with the receiver waiting, or
broken where the stop bit is missing. -/
theorem Line.hearAll_character {l : Line} (h : l.AtMark) (ho : l.over = false) {cells : Fin 20 → Bool}
    (h0 : cells 0 = false) (h1 : cells 1 = false) : l.hearAll (List.ofFn cells) =
      ⟨cells 19, if cells 19 then .waiting else .broken, 0,
        l.burst.map fun b => b.add ⟨sampledByte cells, cells 19⟩⟩ := by
  have start : List.ofFn cells = false :: false :: List.ofFn fun i : Fin 18 => cells (i.succ.succ) := by
    rw [List.ofFn_succ, List.ofFn_succ]
    exact congrArg₂ _ h0 (congrArg₂ _ h1 rfl)
  obtain ⟨rxd, receiver, quiet, burst⟩ := l
  obtain ⟨rfl, rfl⟩ := h
  rw [start, Line.hearAll_cons ho, Line.hearAll_cons (Line.not_over_of_active (Line.hear_space _)),
    Line.hearAll_inCharacter _ (cells := 2) (byte := 0) rfl (by decide) (by simp)]
  show Line.mk (cells 19) _ (if (cells 19 && false) = true then _ else 0) _ = _
  rw [Bool.and_false]
  rfl

/-- What the receiver needs at the start of a character: RXD at mark, the receiver waiting, the burst not over. -/
def Line.Ready (l : Line) : Prop := l.AtMark ∧ l.over = false

/-- A character sent is heard as it was sent, and the next one can follow at once (R1, R3). -/
theorem Line.hearAll_charLevels {l : Line} (h : l.Ready) (b : Byte) : (l.hearAll (charLevels b)).Ready ∧
    (l.hearAll (charLevels b)).burst = l.burst.map fun a => a.add ⟨b, true⟩ := by
  obtain ⟨cells, sent⟩ := exists_ofFn (charLevels_length b)
  obtain ⟨h0, h1, sampled, h19⟩ := (comesBack_ofFn b cells).mp (sent ▸ charLevels_comesBack b)
  rw [sent, Line.hearAll_character h.1 h.2 h0 h1, sampled, h19]
  exact ⟨⟨⟨rfl, rfl⟩, rfl⟩, rfl⟩

/-- Characters sent back to back all join the burst (R1, R5). -/
theorem Line.hearAll_levelsOf (bytes : List Byte) {l : Line} (h : l.Ready) : (l.hearAll (levelsOf bytes)).Ready ∧
    (l.hearAll (levelsOf bytes)).burst = l.burst.map fun a => bytes.foldl (fun a b => a.add ⟨b, true⟩) a := by
  induction bytes generalizing l with
  | nil => exact ⟨h, Option.map_id'.symm⟩
  | cons b bytes ih =>
    obtain ⟨next, one⟩ := Line.hearAll_charLevels h b
    obtain ⟨last, others⟩ := ih next
    rw [levelsOf_cons, Line.hearAll_append]
    refine ⟨last, ?_⟩
    rw [others, one, Option.map_map]
    rfl

/-- R5: the bytes of good characters, while there are at most 71. -/
theorem Burst.foldl_add (bytes : List Byte) {a : Burst} (room : a.bytes.length + bytes.length ≤ 71) :
    bytes.foldl (fun a b => a.add ⟨b, true⟩) a =
      { a with bytes := a.bytes ++ bytes, count := a.count + bytes.length } := by
  induction bytes generalizing a with
  | nil => simp
  | cons b bytes ih =>
    rw [List.length_cons] at room
    have one : a.add ⟨b, true⟩ = { a with bytes := a.bytes ++ [b], count := a.count + 1 } := by
      simp [Burst.add, show a.bytes.length < 71 by omega]
    rw [List.foldl_cons, one, ih (by rw [List.length_append, List.length_singleton]; omega)]
    simp [Nat.add_assoc, Nat.add_comm 1]

/-- At mark a receiver that waits goes on waiting (R3). -/
theorem Line.hear_mark {l : Line} (h : l.AtMark) : (l.hear true).AtMark ∧ (l.hear true).burst = l.burst := by
  obtain ⟨rxd, receiver, quiet, burst⟩ := l
  obtain ⟨rfl, rfl⟩ := h
  exact ⟨⟨rfl, rfl⟩, rfl⟩

/-- Marks after the last character leave the burst (R5). -/
theorem Line.hearAll_marks (n : Nat) {l : Line} (h : l.AtMark) :
    (l.hearAll (List.replicate n true)).burst = l.burst := by
  induction n generalizing l with
  | zero => rfl
  | succ n ih =>
    show (Line.hearAll (if l.over then l else l.hear true) (List.replicate n true)).burst = l.burst
    obtain ⟨next, burst⟩ := Line.hear_mark h
    split_ifs
    exacts [ih h, (ih next).trans burst]

/-- A receiver that waits takes a well-formed frame sent so as that frame (R1, R3, R5, R12). -/
theorem Line.hearAll_frame {l : Line} (h : l.AtMark) (own ignored : Bool) {f : Frame} (formed : f.wellFormed = true) :
    (Line.hearAll { l with quiet := 0, burst := some ⟨own, ignored, [], 0, false⟩ }
      (f.levels ++ closingIdle)).burst.map Burst.found = some (.valid f) := by
  obtain ⟨ready, burst⟩ := Line.hearAll_levelsOf f.bytes
    (l := { l with quiet := 0, burst := some ⟨own, ignored, [], 0, false⟩ }) ⟨h, Line.fresh_not_over l _⟩
  have room := (Frame.wellFormed_bytes_length formed).2
  rw [Frame.levels, Line.hearAll_append, closingIdle, Line.hearAll_marks _ ready.1, burst, Option.map_some,
    Option.map_some, Burst.foldl_add f.bytes (by simpa using room)]
  exact congrArg some (Burst.found_of_frame formed rfl (Nat.zero_add _) rfl)

/-! ### Noise and missing stop bits -/

/-- R3: a start bit that is back at mark in its middle forms no character. -/
theorem Line.hearAll_noise {l : Line} (h : l.AtMark) (ho : l.over = false) :
    (l.hearAll [false, true]).AtMark ∧ (l.hearAll [false, true]).burst = l.burst := by
  obtain ⟨rxd, receiver, quiet, burst⟩ := l
  obtain ⟨rfl, rfl⟩ := h
  rw [Line.hearAll_cons ho, Line.hearAll_cons (Line.not_over_of_active (Line.hear_space _))]
  exact ⟨⟨rfl, rfl⟩, rfl⟩

/-- R3: at space a receiver that is broken looks for no start bit. -/
theorem Line.hearAll_broken (n : Nat) {l : Line} (h : l.receiver = .broken) (ho : l.over = false) :
    (l.hearAll (List.replicate n false)).receiver = .broken ∧ (l.hearAll (List.replicate n false)).over = false ∧
      (l.hearAll (List.replicate n false)).burst = l.burst := by
  induction n generalizing l with
  | zero => exact ⟨h, ho, rfl⟩
  | succ n ih =>
    obtain ⟨rxd, receiver, quiet, burst⟩ := l
    obtain rfl : receiver = .broken := h
    rw [List.replicate_succ, Line.hearAll_cons ho]
    exact ih rfl (Line.not_over_of_active (Line.hear_space _))

/-- R3: the first mark after a missing stop bit lets the receiver wait again. -/
theorem Line.hearAll_broken_mark {l : Line} (h : l.receiver = .broken) (ho : l.over = false) :
    (l.hearAll [true]).receiver = .waiting ∧ (l.hearAll [true]).burst = l.burst := by
  obtain ⟨rxd, receiver, quiet, burst⟩ := l
  obtain rfl : receiver = .broken := h
  rw [Line.hearAll_cons ho]
  exact ⟨rfl, rfl⟩

/-! ### The obligation -/

/-- R3: the character that ten bit times with these samples form. -/
theorem Line.hearAll_samples {l : Line} (h : l.AtMark) (ho : l.over = false) {cells : Levels} {c : RxChar}
    (hc : cells.length = 20) (h0 : cells[0]? = some false) (h1 : cells[1]? = some false)
    (data : ∀ j < 8, cells[2 * j + 3]? = some (c.byte.getLsbD j)) (stop : cells[19]? = some c.stop) :
    l.hearAll cells = ⟨c.stop, if c.stop then .waiting else .broken, 0, l.burst.map fun b => b.add c⟩ := by
  obtain ⟨cells, rfl⟩ := exists_ofFn hc
  have start : cells 0 = false := (getElem?_ofFn_eq_some cells 0 (by omega) _).mp h0
  have middle : cells 1 = false := (getElem?_ofFn_eq_some cells 1 (by omega) _).mp h1
  have sampled : sampledByte cells = c.byte :=
    (sampledByte_eq_iff cells c.byte).mpr fun j => (getElem?_ofFn_eq_some cells _ (by omega) _).mp (data j j.isLt)
  have stopped : cells 19 = c.stop := (getElem?_ofFn_eq_some cells 19 (by omega) _).mp stop
  rw [Line.hearAll_character h ho start middle, sampled, stopped]

/-- Settles O40: the bytes, the judgement of a burst, TXD, a frame sent and heard, and the receiver at noise, at a
character and at a missing stop bit. -/
theorem framesSurviveTheLine : Obligations.FramesSurviveTheLine := by
  unfold Obligations.FramesSurviveTheLine
  intro remainder check
  have checks : check = crcBytes := by
    funext bytes
    have step : crcBit = fun (r : BitVec 16) bit =>
        if r.getMsbD 0 ≠ bit then (r <<< 1) ^^^ 0x1021#16 else r <<< 1 := funext₂ crcBit_eq
    rw [crcBytes_eq, crc_eq_foldl_bits, step]
    rfl
  clear_value check
  subst checks
  refine ⟨fun f formed => ?_, fun b counted => ⟨Burst.found_empty, Burst.found_faulted, Burst.found_length,
    fun low high sound => ⟨Burst.found_wrong_crc counted low high sound, Burst.found_right_crc counted low high sound⟩⟩,
    State.de_iff, fun s => State.txd_undriven, fun s st f driven drives => ?_, fun l own ignored f formed mark waits =>
    Line.hearAll_frame ⟨mark, waits⟩ own ignored formed, fun b f => Burst.frame_of_found, Line.idle_iff,
    fun l mark waits ho => ⟨?_, fun cells c hc h0 h1 data stop => ?_⟩, fun l n broken ho => ?_⟩
  · have body := Frame.body_eq_numbers formed
    rw [f.kind.reasonCode_eq] at body
    exact congrArg (fun body => body ++ crcBytes body) body
  · obtain ⟨de, txd⟩ := State.txd_driven driven drives
    rw [txd]
    refine ⟨de, levelsOf_length _, fun k hk j hj => ?_⟩
    rw [levelsOf_getElem? f.bytes hk hj, charLevels_getElem? _ hj]
  · obtain ⟨⟨atMark, waiting⟩, burst⟩ := Line.hearAll_noise ⟨mark, waits⟩ ho
    exact ⟨waiting, atMark, burst⟩
  · rw [Line.hearAll_samples ⟨mark, waits⟩ ho hc h0 h1 data stop]
    refine ⟨rfl, rfl, ?_⟩
    cases c.stop <;> rfl
  · obtain ⟨atSpace, goesOn, burst⟩ := Line.hearAll_broken n broken ho
    obtain ⟨waiting, kept⟩ := Line.hearAll_broken_mark atSpace goesOn
    rw [Line.hearAll_append]
    exact ⟨atSpace, burst, waiting, kept.trans burst⟩

end Sys2Proof.Machine
end

/-! SUPPORT. The access controller is OFF exactly in UNJOINED and LINE_FAULT (R21, R38): an operation keeps OFF and the
station state, runs outside OFF in a joined station, or enters OFF together with one of the two states. -/

section
namespace Sys2Proof.Machine

-- One proof at a time: a thread for each that waits for the same case split can run the checker out of memory.
set_option Elab.async false

namespace AccessFollowsStation

/-! ### The three ways to keep it -/

/-- OFF and the station state both stand. -/
theorem congr {s t : State} (h : AccessFollowsStation s) (off : t.access.state = .off ↔ s.access.state = .off)
    (state : t.station.state = s.station.state) : AccessFollowsStation t := by
  rw [AccessFollowsStation, off, state]
  exact h

/-- Outside OFF the station is joined (R21). -/
theorem joined {s : State} (h : AccessFollowsStation s) (on : s.access.state ≠ .off) : s.station.state.Joined :=
  ⟨fun hs => on (h.mpr (.inl hs)), fun hs => on (h.mpr (.inr hs))⟩

theorem of_on {s : State} (on : s.access.state ≠ .off) (joined : s.station.state.Joined) : AccessFollowsStation s :=
  ⟨fun off => absurd off on, fun left => (left.elim joined.1 joined.2).elim⟩

theorem of_off {s : State} (off : s.access.state = .off)
    (left : s.station.state = .unjoined ∨ s.station.state = .lineFault) : AccessFollowsStation s :=
  ⟨fun _ => left, fun _ => off⟩

/-! ### Operations that leave OFF and the station state -/

theorem after {s t : State} (h : AccessFollowsStation s) (k : StartsNoTimer s t) : AccessFollowsStation t :=
  h.congr k.off k.state

theorem settles {s t : State} (h : AccessFollowsStation s) (k : Settles s t) : AccessFollowsStation t :=
  h.congr (by rw [k.access]) k.station_state

theorem applyWants {s : State} (h : AccessFollowsStation s) : AccessFollowsStation s.applyWants :=
  h.after (.applyWants s)

/-- The access controller moves among the states outside OFF. -/
theorem modAccess {s : State} {f : Access → Access} (h : AccessFollowsStation s) (on : s.access.state ≠ .off)
    (stays : (f s.access).state ≠ .off) : AccessFollowsStation (s.modAccess f) :=
  of_on stays (h.joined on)

theorem contendOrIdle {s : State} (h : AccessFollowsStation s) (on : s.access.state ≠ .off) :
    AccessFollowsStation s.contendOrIdle := by
  refine h.modAccess on ?_
  dsimp only
  split_ifs <;> nofun

/-- R32: a window closes and the access controller contends or idles. -/
theorem closeWindow {s : State} (w : WindowResult) (h : AccessFollowsStation s) (on : s.access.state ≠ .off) :
    AccessFollowsStation (s.closeWindow w).contendOrIdle := by
  have closed : AccessFollowsStation (s.closeWindow w) := (h.settles (s.settleWindow_settles w)).congr .rfl rfl
  refine closed.contendOrIdle ?_
  rwa [s.closeWindow_access]

/-! ### OFF entered and left -/

theorem enterOff {s : State} (left : s.station.state = .unjoined ∨ s.station.state = .lineFault) :
    AccessFollowsStation s.enterOff := by
  refine of_off (congrArg Access.state s.enterOff_access) ?_
  have state : s.enterOff.station.state = s.station.state := s.closeOpenWindow_state
  rwa [state]

theorem enterUnjoined (s : State) : AccessFollowsStation s.enterUnjoined := enterOff (.inl rfl)

theorem unjoinFlagged (s : State) : AccessFollowsStation s.enterUnjoined.flagChange := enterUnjoined s

theorem leaveOff {s : State} (joined : s.station.state.Joined) : AccessFollowsStation s.leaveOff :=
  applyWants (of_on (s := s.modAccess _) nofun joined)

/-- R36, R55: UNJOINED and LINE_FAULT are left as they are; every other state ends in one of the two. -/
theorem lineFault {s : State} (reason : FaultReason) (h : AccessFollowsStation s) :
    AccessFollowsStation (s.lineFault reason) := by
  unfold State.lineFault
  split
  exacts [enterOff (.inr rfl), unjoinFlagged _, unjoinFlagged _, h, h]

/-! ### Requests -/

theorem configure {s : State} (a b c d e f g m : Byte) (h : AccessFollowsStation s) :
    AccessFollowsStation (answerConfigure a b c d e f g m s).state := by
  have access := s.configured_unchanged (configOf a b c d e f g m) .access (by decide)
  refine answer_ite_keeps h (answer_ite_keeps (h.congr ?_ ?_) h)
  · show (s.configured (configOf a b c d e f g m)).access.state = .off ↔ _
    rw [access]
  · show (s.configured (configOf a b c d e f g m)).station.state = _
    rw [s.configured_station]

theorem join {s : State} (h : AccessFollowsStation s) : AccessFollowsStation (answerJoin s).state :=
  answer_ite_keeps h (answer_ite_keeps h (leaveOff (s := s.joinCleared) ⟨nofun, nofun⟩))

/-- R51: from ACTIVE, so outside OFF. -/
theorem startLeave {s : State} (m : LeaveMode) (h : AccessFollowsStation s) (active : s.station.state = .active) :
    AccessFollowsStation (s.startLeave m) := by
  have on : s.access.state ≠ .off := fun off => by simpa [active] using h.mp off
  have leaving : AccessFollowsStation (s.leaving m) := of_on on ⟨nofun, nofun⟩
  refine applyWants (settles ?_ (State.watchQueues_settles _))
  cases m
  exacts [leaving, leaving.settles (State.abandonAll_settles _)]

theorem leave {s : State} (mode : Byte) (h : AccessFollowsStation s) :
    AccessFollowsStation (answerLeave mode s).state := by
  unfold answerLeave
  split
  · exact h
  split
  · exact h
  · unfold State.leaveJoining
    dsimp only
    split_ifs
    exacts [h, enterUnjoined s]
  · next active => exact h.startLeave _ active
  · have changed : AccessFollowsStation (s.modStation fun st => { st with leaveMode := some .abandon }) := h
    exact ite_keeps h fun _ => (changed.settles (State.abandonAll_settles _)).applyWants
  · exact enterUnjoined _

theorem post {s : State} (dest cls length : Byte) (payload : List Byte) (h : AccessFollowsStation s) :
    AccessFollowsStation (answerPost dest cls length payload s).state := by
  unfold answerPost
  split
  · exact h
  split
  · exact h
  split
  · exact h
  · exact (h.settles (s.posted_settles _ _ _)).applyWants

theorem cancel {s : State} (slot tag : Byte) (h : AccessFollowsStation s) :
    AccessFollowsStation (answerCancel slot tag s).state := by
  have resolved := (h.settles (s.resolve_settles slot.toNat .cancelled)).applyWants
  have marked := h.settles (State.setMark_settles .cancelled s slot.toNat)
  unfold answerCancel
  split
  · exact h
  split
  exacts [h, resolved, resolved, marked, marked]

theorem fetch {s : State} (h : AccessFollowsStation s) : AccessFollowsStation (answerFetch s).state := by
  unfold answerFetch
  split
  · exact h
  · next rest _ =>
    have removed : AccessFollowsStation (s.modInbound fun b => { b with records := rest }) := h
    exact (removed.after (.setH _ _)).applyWants

theorem takeOutcomes {s : State} (max : Byte) (h : AccessFollowsStation s) :
    AccessFollowsStation (answerTakeOutcomes max s).state :=
  answer_ite_keeps h (answer_ite_keeps h ((h.settles (s.modOutcomes_settles _)).settles (State.refill_settles _)))

theorem readCounters {s : State} (clear : Byte) (h : AccessFollowsStation s) :
    AccessFollowsStation (answerReadCounters clear s).state :=
  answer_ite_keeps h (answer_ite_keeps h h)

/-! ### Bursts -/

theorem beginActivity {s : State} (rxd : Levels) (h : AccessFollowsStation s) :
    AccessFollowsStation (s.beginActivity rxd) := by
  refine h.congr ?_ rfl
  simp only [State.beginActivity, State.modAccess_access, State.modLine_access]
  cases hs : s.access.state <;> simp [hs]

theorem addressConflict {s : State} (h : AccessFollowsStation s) : AccessFollowsStation s.addressConflict := by
  unfold State.addressConflict
  dsimp only
  split_ifs
  exacts [unjoinFlagged _, h]

theorem takeFound {s : State} (found : Found) (h : AccessFollowsStation s) :
    AccessFollowsStation (s.takeFound found) := by
  have counted : AccessFollowsStation (s.count .framesHeard) := h
  cases found with
  | noFrame => exact h
  | discarded k => exact h
  | valid f =>
    unfold State.takeFound State.takeValid
    dsimp only
    split_ifs
    · exact counted.addressConflict
    · exact (counted.settles (State.modPeer_settles _ _ _)).after (.route _ _)

theorem accessEnded {s : State} (w : WindowResult) (h : AccessFollowsStation s) :
    AccessFollowsStation (s.accessEnded w) := by
  unfold State.accessEnded
  split
  · next deferred => exact h.modAccess (by simp [deferred]) nofun
  · next awaits => exact ite_keeps h fun _ => h.closeWindow w (by simp [awaits])
  · exact h.applyWants

theorem endOfFrame {s : State} (rxd : Levels) (h : AccessFollowsStation s) :
    AccessFollowsStation (s.endOfFrame rxd) := by
  have ended : AccessFollowsStation (s.occupyWindow rxd).lineEnded := h
  unfold State.endOfFrame
  split
  · exact h
  · unfold State.endBurst
    split_ifs
    exacts [(ended.takeFound _).accessEnded _, ended.accessEnded _]

/-! ### Own frames -/

theorem drive {s : State} {st : AccessState} (f : Frame) (h : AccessFollowsStation s) (on : s.access.state ≠ .off)
    (drives : st ≠ .off) : AccessFollowsStation (s.drive st f) := of_on drives (h.joined on)

theorem win {s : State} (h : AccessFollowsStation s) (on : s.access.state ≠ .off) : AccessFollowsStation s.win := by
  unfold State.win
  split
  · exact drive (s := s.modEngine _) _ h on nofun
  · next d i m _ =>
    have same := s.takeMessage_unchanged m d i
    have access : (s.takeMessage d i m).access = s.access := same .access (by decide)
    have station : (s.takeMessage d i m).station = s.station := same .station (by decide)
    exact drive _ (h.congr (by rw [access]) (by rw [station])) (by rwa [access]) nofun
  · exact (h.modAccess (f := fun a => { a with state := .idle, draw := none }) on nofun).applyWants

theorem noticeCompleted {s : State} (kind : FrameKind) (h : AccessFollowsStation s) :
    AccessFollowsStation (s.noticeCompleted kind) := by
  unfold State.noticeCompleted
  split
  · split_ifs with joining
    · exact unjoinFlagged s
    · have on : s.access.state ≠ .off := fun off => by simpa [joining] using h.mp off
      exact of_on (s := s.enterActive) on ⟨nofun, nofun⟩
    · exact h
  · exact ite_keeps h fun _ => unjoinFlagged s
  · exact h

theorem afterContended {s : State} (kind : FrameKind) (h : AccessFollowsStation s) :
    AccessFollowsStation (s.afterContended kind) := by
  unfold State.afterContended
  split_ifs with off
  exacts [h, h.modAccess off nofun, h.contendOrIdle off]

theorem completeFrame {s : State} (l : Line) (f : Frame) (h : AccessFollowsStation s) :
    AccessFollowsStation (s.completeFrame l f) := by
  have sent : AccessFollowsStation
      ((((s.endDrive l).modAccess fun a => { a with n := 0 }).count .framesSent).frameSent f.kind f.h) := h
  exact ((sent.settles (State.completeInFlight_settles _)).noticeCompleted _).afterContended _

theorem collide {s : State} (l : Line) (h : AccessFollowsStation s) (on : s.access.state ≠ .off) :
    AccessFollowsStation (s.collide l) := by
  have deferred : AccessFollowsStation
      (((s.endDrive l).modAccess fun a => { a with state := .defer }).count .collisions) := of_on nofun (h.joined on)
  have withdrawn := deferred.settles (State.withdrawInFlight_settles _)
  unfold State.collide
  dsimp only
  split_ifs
  exacts [lineFault (s := State.modAccess _ _) _ withdrawn, unjoinFlagged _, withdrawn]

/-! ### Timers -/

theorem beaconOut {s : State} (h : AccessFollowsStation s) : AccessFollowsStation s.beaconOut := by
  refine ite_keeps h fun _ => ?_
  dsimp only
  split_ifs
  exacts [applyWants (s := State.placeNotice _ _) h, h]

end AccessFollowsStation

/-! ### Every step -/

theorem operationsKeep_accessFollowsStation : OperationsKeep AccessFollowsStation where
  surroundings same h :=
    h.congr (by rw [(same .access (by decide) : _ = _)]) (by rw [(same .station (by decide) : _ = _)])
  elapse _ h := h
  pinReset _ _ _ := State.reset_accessFollowsStation
  restart _ _ _ := State.reset_accessFollowsStation
  status h := h
  configure _ _ _ _ _ _ _ _ h := h.configure _ _ _ _ _ _ _ _
  join h := h.join
  leave mode h := h.leave mode
  post _ _ _ _ h := h.post _ _ _ _
  cancel _ _ h := h.cancel _ _
  fetch h := h.fetch
  takeOutcomes max h := h.takeOutcomes max
  readCounters clear h := h.readCounters clear
  beginActivity rxd h := h.beginActivity rxd
  endOfFrame rxd _ h := h.endOfFrame rxd
  completeGap {s} gap h :=
    AccessFollowsStation.of_on (s := s.completeGap) nofun (h.joined (by simp [gap]))
  reportIdle _ h := h
  win draw h := h.win (by simp [draw])
  completeFrame _ _ h := h.completeFrame _ _
  collide _ hf h := h.collide _ (by simp [hf.1])
  driveReply _ hs h := .drive (s := State.modAccess _ _) _ h (by rcases hs with hs | hs | hs | hs <;> simp [hs]) nofun
  completeReply _ hf h := .contendOrIdle (s := State.frameSent _ _ _) h (by
    show _ ≠ AccessState.off
    exact hf.1 ▸ nofun)
  abandonReply _ hf h := .of_on nofun (h.joined (by simp [hf.1]))
  closeUnanswered awaits h := h.closeWindow _ (by simp [awaits])
  lineFault reason _ _ h := h.lineFault reason
  recover _ _ := .leaveOff ⟨nofun, nofun⟩
  listenOut h := ite_keeps h fun _ => .applyWants (s := State.placeNotice _ _) h
  beaconOut h := h.beaconOut
  renewalOut h := ite_keeps h fun _ => .applyWants (s := State.reevalHold _) h
  presenceOut peer h := ite_keeps h fun _ => (h.settles (State.makeSilent_settles _ peer)).applyWants
  holdOut peer h := ite_keeps h fun _ => (h.settles (State.modPeer_settles _ peer _)).applyWants
  retryOut slot h := ite_keeps h fun _ => (h.settles (State.modMessage_settles _ slot _)).applyWants

/-- Settles O54: OFF is entered with UNJOINED or LINE_FAULT, left with JOINING or ACTIVE, and stands otherwise. -/
theorem stepKeepsAccessFollowsStation : Obligations.StepKeepsAccessFollowsStation := by
  unfold Obligations.StepKeepsAccessFollowsStation
  exact fun _ _ h ht => operationsKeep_accessFollowsStation.step h ht

end Sys2Proof.Machine
end

/-! SUPPORT. An IDLE access controller wants nothing (R22): what the wants-line condition is read from, which operations
leave it, and those after which the access controller has acted on it or stands in another state. -/

section
namespace Sys2Proof.Machine

-- One proof at a time: a thread for each that waits for the same case split can run the checker out of memory.
set_option Elab.async false

/-! ### What the condition is read from -/

theorem State.headQueued_eq (s : State) (d : Nat) : s.headQueued d = (s.queue d).head?.any s.isQueued := by
  rw [Bool.eq_iff_iff, State.headQueued_iff]
  unfold State.isQueued
  cases s.queue d with
  | nil => simp
  | cons i rest => cases hm : (s.slot i).msg <;> simp [hm]

/-- R22, R98: the notices, the station state, the queues, which messages are QUEUED, and which peers are HELD. -/
theorem State.wantsLine_congr {s t : State} (notices : t.station.notices = s.station.notices)
    (state : t.station.state = s.station.state) (queue : ∀ d, t.queue d = s.queue d)
    (queued : ∀ i, t.isQueued i = s.isQueued i) (held : ∀ a, (t.peer a).held = (s.peer a).held) :
    t.wantsLine = s.wantsLine := by
  have eligible (d : Nat) : t.eligible d = s.eligible d := by
    unfold State.eligible
    rw [State.inService_eq, State.inService_eq, t.headQueued_eq, s.headQueued_eq, queue, funext queued, held, state]
  rw [State.wantsLine, State.wantsLine, notices]
  simp only [eligible]

/-- No timer is read. -/
theorem State.elapse_wantsLine (s : State) (ms : Nat) : (s.elapse ms).wantsLine = s.wantsLine := by
  refine State.wantsLine_congr rfl rfl (fun _ => rfl) (fun i => ?_) fun a => by rw [s.elapse_peer]; rfl
  rw [State.isQueued, State.isQueued, s.elapse_slot, Slot.countDown_eq]
  cases (s.slot i).msg with
  | none => rfl
  | some m => cases hm : m.state <;> simp [hm]

/-- R90: a QUEUED message is given no mark. -/
theorem State.setMark_wantsLine (k : Mark) (s : State) (i : Nat) : (State.setMark k s i).wantsLine = s.wantsLine := by
  have same : UnchangedBut [.outbound] s (State.setMark k s i) := s.modMessage_unchanged i _
  have station : (State.setMark k s i).station = s.station := same .station (by decide)
  refine State.wantsLine_congr (by rw [station]) (by rw [station]) (fun d => s.queue_modMessage i d _) (fun j => ?_)
    fun a => by rw [State.peer_congr (same .peers (by decide))]
  by_cases hj : j = i
  · rw [hj, State.isQueued, State.isQueued, State.setMark_slot_self]
    obtain ⟨tag, _ | ⟨dest, cls, payload, attempts, seq, state⟩⟩ := s.slot i
    · rfl
    · cases state <;> rfl
  · exact State.isQueued_congr (State.setMark_slot_other k s i hj)

/-- R138, R139: a slot that becomes FREE was DONE, so not QUEUED. -/
theorem State.taken_wantsLine (s : State) (n : Nat) : (s.taken n).wantsLine = s.wantsLine := by
  have same := s.taken_unchanged n
  have station : (s.taken n).station = s.station := same .station (by decide)
  refine State.wantsLine_congr (by rw [station]) (by rw [station]) (s.taken_queue n) (fun i => ?_)
    fun a => by rw [State.peer_congr (same .peers (by decide))]
  rw [State.isQueued, s.taken_slot]
  split_ifs with freed
  · obtain ⟨m, hm, done⟩ := (s.doneOutcome_isSome_iff i).mp freed.2
    obtain ⟨r, hr⟩ := Message.done_of_not_live done
    simp [State.isQueued, hm, hr]
  · rfl

/-- R40, R50: in UNJOINED a new configuration places no HOLD notice. -/
theorem State.configured_wantsLine {s : State} (unjoined : s.station.state = .unjoined) (record : ConfigRecord)
    (h : s.wantsLine = false) : (s.configured record).wantsLine = false := by
  have away : s.inService = false := by simp [s.inService_eq, unjoined]
  have stays : (s.configured record).inService = false := by
    rw [State.inService_eq, s.configured_station, ← s.inService_eq, away]
  rw [State.wantsLine_of_not_inService away] at h
  have unheld : s.station.notices.hold = false := by
    simp only [NoticeSet.any, Bool.or_eq_false_iff] at h
    exact h.1.2
  rw [State.wantsLine_of_not_inService stays, s.configured_station]
  simpa [NoticeSet.any, State.configured_hold unjoined unheld, unheld] using h

namespace IdleWantsNothing

/-! ### The ways to keep it -/

theorem of_not_idle {s : State} (busy : s.access.state ≠ .idle) : IdleWantsNothing s := fun idle => absurd idle busy

theorem congr {s t : State} (h : IdleWantsNothing s) (state : t.access.state = s.access.state)
    (wants : t.wantsLine = s.wantsLine) : IdleWantsNothing t := by
  rw [IdleWantsNothing, state, wants]
  exact h

/-- What the condition is read from stands, and so does the access controller. -/
theorem of_unchanged {changed : List Block} {s t : State} (h : IdleWantsNothing s) (same : UnchangedBut changed s t)
    (access : .access ∉ changed) (station : .station ∉ changed) (peers : .peers ∉ changed)
    (outbound : .outbound ∉ changed) : IdleWantsNothing t := by
  have sameStation : t.station = s.station := same .station station
  have sameStore : t.outbound = s.outbound := same .outbound outbound
  exact h.congr (congrArg Access.state (same .access access))
    (State.wantsLine_congr (by rw [sameStation]) (by rw [sameStation]) (State.queue_congr sameStore)
      (fun i => State.isQueued_congr (State.slot_congr sameStore i))
      fun a => by rw [State.peer_congr (same .peers peers)])

/-! ### Windows and OFF -/

/-- R21: OFF is not IDLE. -/
theorem enterOff (s : State) : IdleWantsNothing s.enterOff := of_not_idle (by simp [s.enterOff_access, Access.reset])

theorem enterUnjoined (s : State) : IdleWantsNothing s.enterUnjoined := enterOff _

theorem unjoinFlagged (s : State) : IdleWantsNothing s.enterUnjoined.flagChange := of_not_idle (by
  show s.enterUnjoined.access.state ≠ .idle
  simp [s.enterUnjoined_access, Access.reset])

theorem lineFault {s : State} (reason : FaultReason) (h : IdleWantsNothing s) :
    IdleWantsNothing (s.lineFault reason) := by
  unfold State.lineFault
  split
  exacts [enterOff _, unjoinFlagged _, unjoinFlagged _, h, h]

/-! ### Requests -/

theorem configure {s : State} (a b c d e f g m : Byte) (h : IdleWantsNothing s) :
    IdleWantsNothing (answerConfigure a b c d e f g m s).state := by
  unfold answerConfigure
  dsimp only
  split_ifs with joined
  · exact h
  · intro idle
    have access := s.configured_unchanged (configOf a b c d e f g m) .access (by decide)
    refine State.configured_wantsLine (not_not.mp joined) _ (h ?_)
    rwa [← access]
  · exact h

theorem leave {s : State} (mode : Byte) (h : IdleWantsNothing s) : IdleWantsNothing (answerLeave mode s).state := by
  unfold answerLeave
  split
  · exact h
  split
  · exact h
  · unfold State.leaveJoining
    dsimp only
    split_ifs with sending
    exacts [of_not_idle (by simp [sending]), enterUnjoined s]
  · exact State.applyWants_idle _
  · exact ite_keeps h fun _ => State.applyWants_idle _
  · exact enterUnjoined _

theorem post {s : State} (dest cls length : Byte) (payload : List Byte) (h : IdleWantsNothing s) :
    IdleWantsNothing (answerPost dest cls length payload s).state := by
  unfold answerPost
  split
  · exact h
  split
  · exact h
  split
  exacts [h, State.applyWants_idle _]

theorem cancel {s : State} (slot tag : Byte) (h : IdleWantsNothing s) :
    IdleWantsNothing (answerCancel slot tag s).state := by
  have marked : IdleWantsNothing (s.setMark .cancelled slot.toNat) :=
    h.congr (by rw [(State.setMark_settles _ s _).access]) (State.setMark_wantsLine _ s _)
  unfold answerCancel
  split
  · exact h
  split
  exacts [h, State.applyWants_idle _, State.applyWants_idle _, marked, marked]

theorem fetch {s : State} (h : IdleWantsNothing s) : IdleWantsNothing (answerFetch s).state := by
  unfold answerFetch
  split
  exacts [h, State.applyWants_idle _]

theorem takeOutcomes {s : State} (max : Byte) (h : IdleWantsNothing s) :
    IdleWantsNothing (answerTakeOutcomes max s).state := by
  have access := s.taken_unchanged max.toNat .access (by decide)
  exact answer_ite_keeps h (answer_ite_keeps h
    (h.congr (t := s.taken max.toNat) (congrArg Access.state access) (s.taken_wantsLine _)))

/-! ### Bursts -/

theorem beginActivity {s : State} (rxd : Levels) (h : IdleWantsNothing s) :
    IdleWantsNothing (s.beginActivity rxd) := by
  have wants : (s.beginActivity rxd).wantsLine = s.wantsLine := rfl
  intro idle
  rw [wants]
  refine h ?_
  simp only [State.beginActivity, State.modAccess_access, State.modLine_access] at idle
  cases hs : s.access.state <;> simp_all

/-- R22, R23, R32: at an end of frame the access controller acts on what the station wants, or is not IDLE. -/
theorem accessEnded (s : State) (w : WindowResult) : IdleWantsNothing (s.accessEnded w) := by
  unfold State.accessEnded
  split
  · exact of_not_idle nofun
  · next awaits => exact ite_keeps (of_not_idle (by simp [awaits])) fun _ => State.contendOrIdle_idle _
  · exact State.applyWants_idle s

theorem endOfFrame {s : State} (rxd : Levels) (h : IdleWantsNothing s) : IdleWantsNothing (s.endOfFrame rxd) := by
  unfold State.endOfFrame
  split
  · exact h
  · unfold State.endBurst
    split_ifs <;> exact accessEnded _ _

/-! ### Own frames -/

theorem win (s : State) : IdleWantsNothing s.win := by
  unfold State.win
  split
  exacts [of_not_idle nofun, of_not_idle nofun, State.applyWants_idle _]

theorem afterContended (s : State) (kind : FrameKind) : IdleWantsNothing (s.afterContended kind) := by
  unfold State.afterContended
  split_ifs with off
  exacts [of_not_idle (by simp [off]), of_not_idle nofun, State.contendOrIdle_idle s]

/-- R28: after a collision the access controller is in DEFER or OFF. -/
theorem collide (s : State) (l : Line) : IdleWantsNothing (s.collide l) := by
  have withdrawn := State.withdrawInFlight_settles
    (((s.endDrive l).modAccess fun a => { a with state := .defer }).count .collisions)
  have deferred (f : Access → Access) (stays : ∀ a, (f a).state = a.state) :
      IdleWantsNothing ((((s.endDrive l).modAccess fun a => { a with state := .defer }).count
        .collisions).withdrawInFlight.modAccess f) := of_not_idle (by
    rw [State.modAccess_access, stays, withdrawn.access]
    nofun)
  unfold State.collide
  dsimp only
  split_ifs
  exacts [lineFault _ (deferred _ fun _ => rfl), unjoinFlagged _, deferred _ fun _ => rfl]

/-! ### Timers -/

theorem beaconOut {s : State} (h : IdleWantsNothing s) : IdleWantsNothing s.beaconOut := by
  refine ite_keeps h fun _ => ?_
  dsimp only
  split_ifs
  exacts [State.applyWants_idle _, h]

end IdleWantsNothing

/-! ### Every step -/

theorem operationsKeep_idleWantsNothing : OperationsKeep IdleWantsNothing where
  surroundings same h := h.of_unchanged same (by decide) (by decide) (by decide) (by decide)
  elapse {s} ms h := h.congr rfl (s.elapse_wantsLine ms)
  pinReset _ _ _ := .of_not_idle nofun
  restart _ _ _ := .of_not_idle nofun
  status h := h
  configure _ _ _ _ _ _ _ _ h := h.configure _ _ _ _ _ _ _ _
  join h := answer_ite_keeps h (answer_ite_keeps h (State.applyWants_idle _))
  leave mode h := h.leave mode
  post _ _ _ _ h := h.post _ _ _ _
  cancel _ _ h := h.cancel _ _
  fetch h := h.fetch
  takeOutcomes max h := h.takeOutcomes max
  readCounters _ h := answer_ite_keeps h (answer_ite_keeps h h)
  beginActivity rxd h := h.beginActivity rxd
  endOfFrame rxd _ h := h.endOfFrame rxd
  completeGap _ _ := .of_not_idle nofun
  reportIdle _ h := h
  win _ _ := .win _
  completeFrame _ _ _ := .afterContended _ _
  collide _ _ _ := .collide _ _
  driveReply _ _ _ := .of_not_idle nofun
  completeReply _ _ _ := State.contendOrIdle_idle _
  abandonReply _ _ _ := .of_not_idle nofun
  closeUnanswered _ _ := State.contendOrIdle_idle _
  lineFault reason _ _ h := h.lineFault reason
  recover _ _ := State.applyWants_idle _
  listenOut h := ite_keeps h fun _ => State.applyWants_idle _
  beaconOut h := h.beaconOut
  renewalOut h := ite_keeps h fun _ => State.applyWants_idle _
  presenceOut _ h := ite_keeps h fun _ => State.applyWants_idle _
  holdOut _ h := ite_keeps h fun _ => State.applyWants_idle _
  retryOut _ h := ite_keeps h fun _ => State.applyWants_idle _

/-- Settles O52: an operation that may change what an IDLE access controller wants acts on it at its end (R22). -/
theorem stepKeepsIdleWantsNothing : Obligations.StepKeepsIdleWantsNothing := by
  unfold Obligations.StepKeepsIdleWantsNothing
  exact fun _ _ h ht => operationsKeep_idleWantsNothing.step h ht

end Sys2Proof.Machine
end

/-! SUPPORT. The gap (R24, R25): what a report of the idle period leaves of the line, and the draw. -/

section
namespace Sys2Proof.Machine

-- One proof at a time: a thread for each that waits for the same case split can run the checker out of memory.
set_option Elab.async false

/-! ### A report of the idle period -/

/-- R4: of the line the length of the idle period alone. -/
theorem State.reportIdle_line (s : State) (ct : Nat) :
    (s.reportIdle ct).line = { s.line with quiet := (s.reportIdle ct).line.quiet } := by
  unfold State.reportIdle
  rw [State.modLine_line]
  split_ifs <;> rfl

/-- On an idle line the period is then at least as long as reported. -/
theorem State.le_reportIdle_quiet {s : State} (h : s.lineIdle = true) (ct : Nat) :
    20 * ct ≤ (s.reportIdle ct).line.quiet := by
  have idle : s.line.idle = true := h
  simp [State.reportIdle, idle]

theorem State.reportIdle_unchanged (s : State) (ct : Nat) : UnchangedBut [.line] s (s.reportIdle ct) :=
  s.modLine_unchanged _

/-- The class of the line stands (R4). -/
theorem State.reportIdle_lineIdle (s : State) (ct : Nat) : (s.reportIdle ct).lineIdle = s.lineIdle := by
  show (s.reportIdle ct).line.idle = _
  rw [s.reportIdle_line]
  rfl

/-! ### The draw -/

theorem State.takeRandom_unchanged (s : State) : UnchangedBut [.generator] s s.takeRandom := by
  intro b hb
  cases b
  case generator => exact absurd (by decide) hb
  all_goals rfl

theorem exec_accessGapComplete_elsewhere {s : State} (h : s.access.state ≠ .gap) :
    exec .accessGapComplete s = .next s := congrArg Host.Outcome.next (if_neg h)

theorem exec_accessGapComplete_gap {s : State} (h : s.access.state = .gap) :
    exec .accessGapComplete s = .next s.completeGap := congrArg Host.Outcome.next (if_pos h)

theorem State.completeGap_unchanged (s : State) : UnchangedBut [.line, .access, .generator] s s.completeGap :=
  (((s.reportIdle_unchanged _).append (State.takeRandom_unchanged _)).append
    (State.modAccess_unchanged _ _)).mono (by decide)

/-- R25: a draw is in the range of its count of collisions. -/
theorem drawOf_lt (n value : Nat) : drawOf n value < 2 ^ min (n + 2) 8 := Nat.mod_lt _ (Nat.two_pow_pos _)

/-- R25: each number of the range is drawn, for one from that number itself. -/
theorem drawOf_self {n d : Nat} (h : d < 2 ^ min (n + 2) 8) : drawOf n d = d := Nat.mod_eq_of_lt h

/-- Settles O25: a completed gap block by block, and the range of the draw. -/
theorem gapTakesDraw : Obligations.GapTakesDraw := by
  unfold Obligations.GapTakesDraw
  refine ⟨fun s => exec_accessGapComplete_elsewhere, fun s gap => ?_, fun n d hd => ⟨d, drawOf_self hd⟩⟩
  exact ⟨_, exec_accessGapComplete_gap gap, s.completeGap_unchanged, rfl, drawOf_lt _ _, rfl,
    s.reportIdle_line Config.accessGap, fun idle => State.le_reportIdle_quiet idle Config.accessGap⟩

end Sys2Proof.Machine
end

/-! SUPPORT. The end of an own frame (R17, R28, R30, R34): the four commands that report it, the state in which DE is
released, and what a sent frame leaves of the station (R48). -/

section
namespace Sys2Proof.Machine

-- One proof at a time: a thread for each that waits for the same case split can run the checker out of memory.
set_option Elab.async false

/-! ### The commands -/

section
variable {s : State} {f : Frame} {rxd : Levels}

theorem exec_frameComplete (hf : Drives s .sending f) (hr : ReadsBack s f rxd .complete) :
    exec (.frameComplete rxd) s = .next (s.completeFrame (s.line.compare f.bytes rxd).1 f) := by
  obtain ⟨state, frame⟩ := hf
  simp only [exec, execFrameComplete, state, frame]
  rw [if_pos hr]

theorem exec_collision (hf : Drives s .sending f) (hr : ReadsBack s f rxd .failed) :
    exec (.collision rxd) s = .next (s.collide (s.line.compare f.bytes rxd).1) := by
  obtain ⟨state, frame⟩ := hf
  simp only [exec, execCollision, state, frame]
  rw [if_pos hr]

theorem exec_replyComplete (hf : Drives s .replying f) (hr : ReadsBack s f rxd .complete) :
    exec (.replyComplete rxd) s = .next (s.completeReply (s.line.compare f.bytes rxd).1 f) := by
  obtain ⟨state, frame⟩ := hf
  simp only [exec, execReplyComplete, state, frame]
  rw [if_pos hr]

theorem exec_replyCollision (hf : Drives s .replying f) (hr : ReadsBack s f rxd .failed) :
    exec (.replyCollision rxd) s = .next (s.abandonReply (s.line.compare f.bytes rxd).1) := by
  obtain ⟨state, frame⟩ := hf
  simp only [exec, execReplyCollision, state, frame]
  rw [if_pos hr]

end

theorem State.endDrive_unchanged (s : State) (l : Line) : UnchangedBut [.line, .access] s (s.endDrive l) :=
  (s.modLine_unchanged _).append (State.modAccess_unchanged _ _)

/-! ### A sent frame -/

theorem State.frameSent_unchanged (s : State) (kind : FrameKind) (h : Bool) :
    UnchangedBut [.station] s (s.frameSent kind h) :=
  (s.modStation_unchanged _).trans (State.modStation_unchanged _ _)

/-- R48: the station after a sent frame. -/
theorem State.frameSent_station (s : State) (kind : FrameKind) (h : Bool) : (s.frameSent kind h).station =
    { s.station with
      lastSentH := h
      beacon := .running (s.station.config.beacon * 100)
      renewal := if s.inbound.h then .running (s.station.config.holdTime * 10 / 2) else s.station.renewal
      notices := { s.station.notices.completed kind with
        beacon := false
        hold := (s.frameSent kind h).holdCondition } } := rfl

/-- A message's frame and a reply take no notice out of the set (R48). -/
theorem NoticeSet.completed_of_not_notice (n : NoticeSet) {kind : FrameKind} (h : ∀ r, kind ≠ .notice r) :
    n.completed kind = n := by
  cases kind with
  | notice r => exact absurd rfl (h r)
  | _ => rfl

/-! ### Replies -/

/-- R33: the pending reply is driven. -/
def State.replyDriven (s : State) (f : Frame) : State :=
  (s.modAccess fun a => { a with reply := none }).drive .replying f

theorem exec_replyGap {s : State} {f : Frame} (pending : s.access.reply = some f)
    (hs : s.access.state ∈ [.idle, .defer, .gap, .draw]) : exec .replyGap s = .next (s.replyDriven f) := by
  simp only [exec, execReplyGap, pending]
  rw [if_pos (by simpa using hs)]
  rfl

theorem State.replyDriven_unchanged (s : State) (f : Frame) : UnchangedBut [.line, .access] s (s.replyDriven f) :=
  ((s.modAccess_unchanged _).append (State.drive_unchanged _ _ _)).mono (by decide)

theorem State.completeReply_unchanged (s : State) (l : Line) (f : Frame) :
    UnchangedBut [.line, .access, .station, .counters] s (s.completeReply l f) :=
  ((((s.endDrive_unchanged l).append (State.count_unchanged _ _)).append (State.frameSent_unchanged _ _ _)).append
    (State.modAccess_unchanged _ _)).mono (by decide)

/-- R34: no reply is a notice, so of the set only the BEACON and the HOLD notice change. -/
theorem State.completeReply_station (s : State) (l : Line) {f : Frame} (reply : f.kind = .ack ∨ f.kind = .refuse) :
    (s.completeReply l f).station = { s.station with
      lastSentH := f.h
      beacon := .running (s.station.config.beacon * 100)
      renewal := if s.inbound.h then .running (s.station.config.holdTime * 10 / 2) else s.station.renewal
      notices := { s.station.notices with beacon := false, hold := (s.completeReply l f).holdCondition } } := by
  have kept := s.station.notices.completed_of_not_notice (kind := f.kind) (by rcases reply with h | h <;> simp [h])
  refine (((s.endDrive l).count .framesSent).frameSent_station f.kind f.h).trans ?_
  simp only [State.count_station]
  rw [show (s.endDrive l).station = s.station from rfl, kept]
  rfl

/-- Settles O33: the reply driven, completed, abandoned, each block by block. -/
theorem replyIsSentOnce : Obligations.ReplyIsSentOnce := by
  unfold Obligations.ReplyIsSentOnce
  refine ⟨fun s f pending hs => ?_, fun s none => ?_, fun s f rxd hf reply hr => ?_, fun s f rxd hf hr => ?_⟩
  · exact ⟨_, exec_replyGap pending hs, s.replyDriven_unchanged f, rfl, rfl, rfl, rfl⟩
  · simp [exec, execReplyGap, none]
  · exact ⟨_, exec_replyComplete hf hr, s.completeReply_unchanged _ f, rfl, rfl, s.completeReply_station _ reply, rfl⟩
  · exact exec_replyCollision hf hr

end Sys2Proof.Machine
end

/-! SUPPORT. A reply window that stays idle to 4 ct (R31, R32): the timeout is a close with no reply. -/

section
namespace Sys2Proof.Machine

-- One proof at a time: a thread for each that waits for the same case split can run the checker out of memory.
set_option Elab.async false

theorem exec_replyWindowTimeout_elsewhere {s : State}
    (h : s.access.occupied = true ∨ s.access.state ≠ .awaitReply) : exec .replyWindowTimeout s = .next s := by
  refine congrArg Host.Outcome.next (if_neg fun ⟨awaiting, unoccupied⟩ => ?_)
  rcases h with occupied | away
  · simp [occupied] at unoccupied
  · exact away awaiting

/-- The state in which the window has been idle for 4 ct (R31). -/
def State.windowElapsed (s : State) : State := s.reportIdle Config.replyWindow

theorem exec_replyWindowTimeout_open {s : State} (h : s.access.state = .awaitReply)
    (unoccupied : s.access.occupied = false) : exec .replyWindowTimeout s = .next s.windowElapsed.closeUnanswered :=
  congrArg Host.Outcome.next (if_pos ⟨h, by simp [unoccupied]⟩)

theorem State.windowElapsed_unchanged (s : State) : UnchangedBut [.line] s s.windowElapsed := s.reportIdle_unchanged _

/-- The message still awaits its reply. -/
theorem AwaitsReply.windowElapsed {s : State} {i : Nat} {m : Message} {mark : Option Mark}
    (h : AwaitsReply s i m mark) : AwaitsReply s.windowElapsed i m mark := h

/-- Where the access controller goes when the window has closed (R32). -/
theorem State.closeUnanswered_state (s : State) :
    s.closeUnanswered.access.state = if s.closeUnanswered.wantsLine then .gap else .idle :=
  congrArg Access.state s.closeUnanswered_access

/-- Settles O34: the close with no reply, in its three cases. -/
theorem windowTimeoutSettles : Obligations.WindowTimeoutSettles := by
  unfold Obligations.WindowTimeoutSettles
  refine ⟨fun s => exec_replyWindowTimeout_elsewhere, fun s i m mark h unoccupied => ?_⟩
  have closes := exec_replyWindowTimeout_open h.access unoccupied
  have w := h.windowElapsed
  have elapsed := s.windowElapsed_unchanged
  have lands := w.closeUnanswered_engine
  have contends := s.windowElapsed.closeUnanswered_state
  refine ⟨?_, ?_, ?_⟩
  · rintro k rfl hs
    exact ⟨_, closes, (elapsed.append w.marked_unchanged).mono (by decide), lands, w.marked_owed hs, contends⟩
  · rintro rfl limit hs low
    obtain ⟨high, -⟩ := (mem_destinations m.dest).mp (State.mem_destinations_of_mem_queue (hs.mem_queue h.slot h.live))
    refine ⟨_, closes, (elapsed.append (State.closeUnanswered_unchanged _)).mono (by decide), lands,
      w.exhausted_owed hs limit, w.exhausted_queue_self hs limit, fun d hd => w.exhausted_queue_other hs limit hd,
      ?_, fun a ha => ?_, contends⟩
    · rw [w.exhausted_peer limit, State.peer_modPeer_self _ m.dest _ (by omega) low]
      rfl
    · rw [w.exhausted_peer limit, State.peer_modPeer_other _ m.dest a _ ha]
      rfl
  · rintro rfl limit
    exact ⟨_, closes, (elapsed.append (w.retry_unchanged limit)).mono (by decide), lands, w.retry_slot limit,
      fun j hj => w.retry_slot_other limit hj, w.retry_queue limit, contends⟩

end Sys2Proof.Machine
end

/-! SUPPORT. The recovery from a line fault (R37, R56): the JOIN notice, the entry to ACTIVE and the way out of OFF. -/

section
namespace Sys2Proof.Machine

-- One proof at a time: a thread for each that waits for the same case split can run the checker out of memory.
set_option Elab.async false

/-- In ACTIVE again with the JOIN notice placed, the access controller still in OFF (R56). -/
def State.rejoined (s : State) : State := ((s.reportIdle Config.recoveryQuiet).placeNotice .join).enterActive

theorem exec_lineQuiet_elsewhere {s : State}
    (h : s.station.state ≠ .lineFault ∨ s.access.recovery = false ∨ s.lineIdle = false) :
    exec .lineQuiet s = .next s := by
  refine congrArg Host.Outcome.next (if_neg fun ⟨fault, recovery, idle⟩ => ?_)
  rcases h with h | h | h
  · exact h fault
  · exact Bool.false_ne_true (h.symm.trans recovery)
  · exact Bool.false_ne_true (h.symm.trans idle)

theorem exec_lineQuiet_recovers {s : State} (fault : s.station.state = .lineFault)
    (recovery : s.access.recovery = true) (idle : s.lineIdle = true) :
    exec .lineQuiet s = .next s.rejoined.leaveOff := congrArg Host.Outcome.next (if_pos ⟨fault, recovery, idle⟩)

theorem State.rejoined_unchanged (s : State) : UnchangedBut [.line, .station] s s.rejoined :=
  ((s.reportIdle_unchanged _).append ((State.placeNotice_unchanged _ _).trans
    ((State.modStation_unchanged _ _).trans (State.modStation_unchanged _ _)))).mono (by decide)

/-- R21, R22: with a notice pending the way out of OFF on an idle line leads to GAP. -/
theorem State.leaveOff_access_contends {s : State} (wants : s.wantsLine = true) (idle : s.lineIdle = true) :
    s.leaveOff.access = ⟨.gap, 0, none, none, none, false, s.line.burst.isSome, false⟩ := by
  have lineIdle : s.line.idle = true := idle
  rw [State.leaveOff, State.applyWants_eq]
  simp [wants, State.lineIdle, lineIdle, Access.reset]

/-- Settles O36: the recovered state block by block. -/
theorem quietLineRecovers : Obligations.QuietLineRecovers := by
  unfold Obligations.QuietLineRecovers
  refine ⟨fun s => exec_lineQuiet_elsewhere, fun s fault recovery idle => ?_⟩
  have station : s.rejoined.leaveOff.station = s.rejoined.station := s.rejoined.leaveOff_unchanged .station (by decide)
  have line : s.rejoined.leaveOff.line = s.rejoined.line := s.rejoined.leaveOff_unchanged .line (by decide)
  have stillIdle : s.rejoined.lineIdle = true := (s.reportIdle_lineIdle _).trans idle
  have burst : s.rejoined.line.burst = s.line.burst := by
    have reported : (s.reportIdle Config.recoveryQuiet).line.burst = s.line.burst := by rw [s.reportIdle_line]
    exact reported
  have wants : s.rejoined.wantsLine = true := State.wantsLine_of_notice (by simp [State.rejoined, State.enterActive,
    State.reevalHold, State.placeNotice, NoticeSet.place, NoticeSet.any])
  have exact : HoldNoticeExact s.rejoined.leaveOff := (State.reevalHold_exact _).leaveOff
  refine ⟨_, exec_lineQuiet_recovers fault recovery idle,
    (s.rejoined_unchanged.append s.rejoined.leaveOff_unchanged).mono (by decide), ?_, ?_, ?_, ?_⟩
  · rw [← exact, station]
    rfl
  · rw [State.leaveOff_access_contends wants stillIdle, burst]
  · rw [line, burst]
  · show s.rejoined.leaveOff.line.idle = true
    rw [line]
    exact stillIdle

end Sys2Proof.Machine
end

/-! SUPPORT. The line after a readback that is complete (R1, R3, R17): at mark idle, its idle period just begun. -/

section
namespace Sys2Proof.Machine

-- One proof at a time: a thread for each that waits for the same case split can run the checker out of memory.
set_option Elab.async false

/-- The receiver waits at mark, and the idle period begins (R4). -/
def Line.CharacterEnded (l : Line) : Prop := l.rxd = true ∧ l.receiver = .waiting ∧ l.quiet = 0

/-- A half bit time that completes a character with its stop bit ends it at mark (R3, R4). -/
theorem Line.CharacterEnded.of_completes {l : Line} {mark : Bool} {b : Byte}
    (h : l.receiver.completes mark = some ⟨b, true⟩) : (l.hear mark).CharacterEnded := by
  obtain ⟨cells, byte, receiver, last, char⟩ := Receiver.completes_some h
  obtain ⟨rfl, rfl⟩ := RxChar.mk.inj char
  have ended : 20 ≤ cells + 1 := last
  refine ⟨rfl, ?_, by simp [Line.hear, h]⟩
  rw [Line.hear_receiver, receiver, Receiver.next, if_neg (by omega), if_pos ended, if_pos rfl]

/-- One character time in which a character completes ends with it: no sooner can it be complete. -/
theorem Line.hearChar_ended {l : Line} (fresh : l.receiver.passed = 0) {b : Byte} {cells : Levels}
    (hc : cells.length = 20) (heard : (l.hearChar cells).2 = some ⟨b, true⟩) : (l.hearChar cells).1.CharacterEnded := by
  obtain ⟨early, last, rfl⟩ : ∃ early last, cells = early ++ [last] :=
    ⟨_, _, (List.dropLast_append_getLast (List.ne_nil_of_length_pos (by omega))).symm⟩
  have short : early.length = 19 := by simpa using hc
  have none : (early.foldl hearNext (l, none)).2 = none := hearNext_early early (by simp [fresh, short]) rfl
  rw [Line.hearChar_eq, List.foldl_append] at heard ⊢
  refine Line.CharacterEnded.of_completes (b := b) ?_
  simpa [hearNext, none] using heard

/-- A complete readback ends with its last character. -/
theorem Line.compare_ended (bytes : List Byte) {l : Line} {rxd : Levels} (fresh : l.receiver.passed = 0)
    (complete : (l.compare bytes rxd).2 = .complete) :
    bytes = [] ∨ (l.compare bytes rxd).1.CharacterEnded := by
  induction bytes generalizing l rxd with
  | nil => exact .inl rfl
  | cons b rest ih =>
    right
    unfold Line.compare at complete ⊢
    dsimp only at complete ⊢
    split_ifs at complete ⊢ with short back
    have ended := Line.hearChar_ended fresh (by simp at short ⊢; omega) back
    obtain ⟨-, waits, -⟩ := id ended
    rcases ih (by rw [waits]; rfl) complete with rfl | done
    · exact ended
    · exact done

/-- DE is released onto an idle line: the burst stays held (R5). -/
theorem Line.CharacterEnded.released {l : Line} (h : l.CharacterEnded) :
    l.released = l ∧ l.released.idle = true ∧ l.released.quiet = 0 := by
  obtain ⟨rxd, receiver, quiet⟩ := h
  have stays : l.released = l := if_neg (by simp [Line.over, quiet])
  rw [stays]
  exact ⟨rfl, by simp [Line.idle, rxd, receiver, Receiver.busy], quiet⟩

/-- The line after a complete readback of a frame, where no character was under way before it. -/
theorem ReadsBack.released_idle {s : State} {f : Frame} {rxd : Levels} (h : ReadsBack s f rxd .complete)
    (fresh : s.line.receiver.busy = false) :
    (s.line.compare f.bytes rxd).1.released.idle = true ∧ (s.line.compare f.bytes rxd).1.released.quiet = 0 := by
  have passed : s.line.receiver.passed = 0 := by
    cases hr : s.line.receiver with
    | receiving cells byte => simp [hr, Receiver.busy] at fresh
    | _ => rfl
  have characters : f.bytes ≠ [] := List.ne_nil_of_length_pos (by rw [f.bytes_length]; omega)
  exact ((Line.compare_ended f.bytes passed h).resolve_left characters).released.2

end Sys2Proof.Machine
end

/-! SUPPORT. The entry to UNJOINED with the state-change flag (R53, R57), where no message awaits a reply. -/

section
namespace Sys2Proof.Machine

-- One proof at a time: a thread for each that waits for the same case split can run the checker out of memory.
set_option Elab.async false

/-- R36 leaves nothing to close: no reply window is open, or nothing is in flight that it could settle. -/
def State.WindowSettled (s : State) : Prop := s.access.state ≠ .awaitReply ∨ s.engine.inFlight = .none

/-- R21: the access controller in OFF, every other block as it was. -/
theorem State.enterOff_settled {s : State} (h : s.WindowSettled) :
    s.enterOff = s.modAccess fun _ => { Access.reset with recovery := decide (s.station.state = .lineFault) } := by
  by_cases outside : s.access.state ≠ .awaitReply
  · exact State.enterOff_outside outside
  · have landed : s.engine.inFlight = .none := h.resolve_left outside
    have cleared : s.clearInFlight = s := by
      rw [State.clearInFlight, State.modEngine, ← landed]
    have closed : s.closeOpenWindow = s.modAccess fun a => { a with occupied := false } := by
      rw [State.closeOpenWindow, if_pos (not_not.mp outside), State.closeWindow, State.settleWindow, landed]
      exact congrArg (State.modAccess · _) cleared
    rw [State.enterOff, closed]
    rfl

/-- In UNJOINED with the state-change flag set, every timer stopped and the access controller in OFF (R53, R57, R62). -/
def State.unjoinFlagged (s : State) : State :=
  ((s.modStation fun st => { st.unjoin with stateChange := true }).modPeers fun v =>
    v.map PeerRecord.stopTimers).modAccess fun _ => Access.reset

theorem State.enterUnjoined_flagChange {s : State} (h : s.WindowSettled) :
    s.enterUnjoined.flagChange = s.unjoinFlagged := by
  unfold State.enterUnjoined
  rw [State.enterOff_settled (by exact h)]
  rfl

theorem State.unjoinFlagged_unchanged (s : State) : UnchangedBut [.station, .peers, .access] s s.unjoinFlagged :=
  ((s.modStation_unchanged _).append (State.modPeers_unchanged _ _)).append (State.modAccess_unchanged _ _)

theorem State.unjoinFlagged_station (s : State) :
    s.unjoinFlagged.station = { s.station.unjoin with stateChange := true } := rfl

/-- R53, R62: the peer records stay, with their timers stopped. -/
theorem State.unjoinFlagged_peersKept (s : State) : PeersKept s s.unjoinFlagged :=
  State.peer_modPeers_map s PeerRecord.stopTimers rfl

end Sys2Proof.Machine
end

/-! SUPPORT. A completed contended frame (R30, R48): the report that every completed frame makes, and the completion of
a notice (R45, R52, R54). -/

section
namespace Sys2Proof.Machine

-- One proof at a time: a thread for each that waits for the same case split can run the checker out of memory.
set_option Elab.async false

/-! ### The report -/

/-- DE released, n at 0, the frame counted and told to the station controller (R30, R48). -/
def State.frameReported (s : State) (l : Line) (f : Frame) : State :=
  (((s.endDrive l).modAccess fun a => { a with n := 0 }).count .framesSent).frameSent f.kind f.h

section
variable (s : State) (l : Line) (f : Frame)

theorem State.completeFrame_eq : s.completeFrame l f =
    ((s.frameReported l f).completeInFlight.noticeCompleted f.kind).afterContended f.kind := rfl

theorem State.frameReported_unchanged :
    UnchangedBut [.line, .access, .counters, .station] s (s.frameReported l f) :=
  ((((s.endDrive_unchanged l).append (State.modAccess_unchanged _ _)).append (State.count_unchanged _ _)).append
    (State.frameSent_unchanged _ _ _)).mono (by decide)

theorem State.frameReported_station : (s.frameReported l f).station = { s.station with
    lastSentH := f.h
    beacon := .running (s.station.config.beacon * 100)
    renewal := if s.inbound.h then .running (s.station.config.holdTime * 10 / 2) else s.station.renewal
    notices := { s.station.notices.completed f.kind with
      beacon := false
      hold := (s.frameReported l f).holdCondition } } := State.frameSent_station _ f.kind f.h

end

/-! ### A notice -/

theorem State.completeInFlight_notice {s : State} {r : Reason} (h : s.engine.inFlight = .notice r) :
    s.completeInFlight = s.clearInFlight := by
  rw [State.completeInFlight, h]

/-- R48: the JOIN or the LEAVE notice leaves the set, and the others stay. -/
theorem NoticeSet.completed_notice (n : NoticeSet) (r : Reason) :
    n.completed (.notice r) = { n with join := n.join && r ≠ .join, leave := n.leave && r ≠ .leave } := by
  cases r <;> simp [NoticeSet.completed]

/-- The notice in flight has been reported and is in flight no more (R97). -/
def State.noticeReported (s : State) (l : Line) (f : Frame) : State := (s.frameReported l f).clearInFlight

section
variable {s : State} {f : Frame} {r : Reason} (l : Line)

theorem State.noticeReported_unchanged (s : State) (f : Frame) :
    UnchangedBut [.line, .access, .counters, .station, .engine] s (s.noticeReported l f) :=
  (s.frameReported_unchanged l f).append (State.modEngine_unchanged _ _)

theorem State.completeFrame_notice (inFlight : s.engine.inFlight = .notice r) (kind : f.kind = .notice r) :
    s.completeFrame l f = ((s.noticeReported l f).noticeCompleted (.notice r)).afterContended (.notice r) := by
  rw [s.completeFrame_eq, State.completeInFlight_notice (s := s.frameReported l f) inFlight, kind]
  rfl

end

/-- The completion of that notice leads to ACTIVE (R45). -/
abbrev State.NoticeJoins (s : State) (r : Reason) : Prop :=
  r = .join ∧ s.station.state = .joining ∧ s.station.leavePending = false

/-- The completion of that notice leads to UNJOINED (R52, R54). -/
abbrev State.NoticeLeaves (s : State) (r : Reason) : Prop :=
  (r = .join ∧ s.station.state = .joining ∧ s.station.leavePending = true) ∨
    (r = .leave ∧ s.station.state = .leaving)

section
variable {s : State} {r : Reason}

theorem State.noticeCompleted_leaves (h : s.NoticeLeaves r) :
    s.noticeCompleted (.notice r) = s.enterUnjoined.flagChange := by
  rcases h with ⟨rfl, joining, pending⟩ | ⟨rfl, leaving⟩
  · simp [State.noticeCompleted, joining, pending]
  · simp [State.noticeCompleted, leaving]

theorem State.noticeCompleted_joins (h : s.NoticeJoins r) : s.noticeCompleted (.notice r) = s.enterActive := by
  obtain ⟨rfl, joining, unpending⟩ := h
  simp [State.noticeCompleted, joining, unpending]

/-- Any other notice has had its whole effect with its report. -/
theorem State.noticeCompleted_stays (joins : ¬ s.NoticeJoins r) (leaves : ¬ s.NoticeLeaves r) :
    s.noticeCompleted (.notice r) = s := by
  cases r with
  | join =>
    have away : s.station.state ≠ .joining := fun joining => by
      cases pending : s.station.leavePending
      exacts [joins ⟨rfl, joining, pending⟩, leaves (.inl ⟨rfl, joining, pending⟩)]
    exact if_neg away
  | leave => exact if_neg fun leaving => leaves (.inr ⟨rfl, leaving⟩)
  | beacon => rfl
  | hold => rfl

section
variable (leaves : ¬ s.NoticeLeaves r)
include leaves

theorem State.noticeCompleted_unchanged : UnchangedBut [.station] s (s.noticeCompleted (.notice r)) := by
  by_cases joins : s.NoticeJoins r
  · rw [State.noticeCompleted_joins joins]
    exact (s.modStation_unchanged _).trans (State.modStation_unchanged _ _)
  · rw [State.noticeCompleted_stays joins leaves]
    exact .refl _ s

/-- R45, R50: the station that has not left, in ACTIVE if its join is complete. -/
theorem State.noticeCompleted_station (exact : HoldNoticeExact s) {toActive : Prop} [Decidable toActive]
    (h : s.NoticeJoins r ↔ toActive) : (s.noticeCompleted (.notice r)).station =
    { s.station with
      state := if toActive then .active else s.station.state
      stateChange := s.station.stateChange || toActive
      notices := { s.station.notices with hold := (s.noticeCompleted (.notice r)).holdCondition } } := by
  by_cases joins : toActive
  · rw [State.noticeCompleted_joins (h.2 joins), if_pos joins, decide_eq_true joins, Bool.or_true]
    rfl
  · rw [State.noticeCompleted_stays (joins ∘ h.1) leaves, if_neg joins, decide_eq_false joins, Bool.or_false, ← exact]

end

end

theorem State.afterContended_off {s : State} (off : s.access.state = .off) (kind : FrameKind) :
    s.afterContended kind = s := if_pos off

theorem State.afterContended_contends {s : State} (on : s.access.state ≠ .off) {kind : FrameKind} (h : kind ≠ .data) :
    s.afterContended kind = s.contendOrIdle := by
  rw [State.afterContended, if_neg on, if_neg h]

/-! ### The three ends of a notice -/

section
variable {s : State} {f : Frame} {r : Reason} (l : Line)

theorem State.noticeReported_station (kind : f.kind = .notice r) : (s.noticeReported l f).station = { s.station with
    lastSentH := f.h
    beacon := .running (s.station.config.beacon * 100)
    renewal := if s.inbound.h then .running (s.station.config.holdTime * 10 / 2) else s.station.renewal
    notices := ⟨s.station.notices.join && r ≠ .join, false, (s.noticeReported l f).holdCondition,
      s.station.notices.leave && r ≠ .leave⟩ } := by
  refine (s.frameReported_station l f).trans ?_
  rw [kind, NoticeSet.completed_notice]
  rfl

variable (inFlight : s.engine.inFlight = .notice r) (kind : f.kind = .notice r)
include inFlight kind

theorem State.completeFrame_leaves (leaves : s.NoticeLeaves r) :
    s.completeFrame l f = (s.noticeReported l f).unjoinFlagged := by
  rw [State.completeFrame_notice l inFlight kind, State.noticeCompleted_leaves (s := s.noticeReported l f) leaves,
    State.enterUnjoined_flagChange (.inr rfl), State.afterContended_off rfl]

theorem State.completeFrame_contends (hf : Drives s .sending f) (leaves : ¬ s.NoticeLeaves r) :
    s.completeFrame l f = ((s.noticeReported l f).noticeCompleted (.notice r)).contendOrIdle := by
  have same := State.noticeCompleted_unchanged (s := s.noticeReported l f) leaves
  have on : ((s.noticeReported l f).noticeCompleted (.notice r)).access.state ≠ .off := by
    rw [same .access (by decide)]
    show s.access.state ≠ .off
    simp [hf.1]
  rw [State.completeFrame_notice l inFlight kind, State.afterContended_contends on (by simp)]

end

theorem State.contendOrIdle_unchanged (s : State) : UnchangedBut [.access] s s.contendOrIdle :=
  s.modAccess_unchanged _

/-- R30, R32: the state of the access controller alone, as the station then wants the line. -/
theorem State.contendOrIdle_access (s : State) : s.contendOrIdle.access =
    { s.access with state := if s.contendOrIdle.wantsLine then .gap else .idle } := rfl

/-- Settles O29: the notice is reported, and then ends the join or the leave it announces, or contends. -/
theorem noticeCompletes : Obligations.NoticeCompletes := by
  unfold Obligations.NoticeCompletes
  intro s f r rxd hf inFlight kind hr toActive toUnjoined
  have completes := exec_frameComplete hf hr
  have idle := hr.released_idle
  generalize (s.line.compare f.bytes rxd).1 = l at completes idle ⊢
  have same := s.noticeReported_unchanged l f
  have station := State.noticeReported_station (s := s) l kind
  by_cases leaves : s.NoticeLeaves r
  · rw [State.completeFrame_leaves l inFlight kind leaves] at completes
    have entered := (s.noticeReported l f).unjoinFlagged_unchanged
    have unjoined := (s.noticeReported l f).unjoinFlagged_station
    have change : (toActive ∨ toUnjoined) = True := eq_true (.inr leaves)
    refine ⟨_, completes, rfl, rfl, rfl, idle, ?_, rfl, rfl, ?_, fun _ => ?_, fun stays => absurd leaves stays⟩
    · rw [unjoined, station]
      rfl
    · rw [unjoined]
      simp [change]
    · exact ⟨(same.append entered).mono (by decide), rfl, rfl, rfl, rfl, rfl, rfl, rfl,
        (s.noticeReported l f).unjoinFlagged_peersKept⟩
  · have told := State.noticeCompleted_unchanged (s := s.noticeReported l f) leaves
    have stationTold := State.noticeCompleted_station (s := s.noticeReported l f) leaves (State.reevalHold_exact _)
      (toActive := toActive) Iff.rfl
    rw [State.completeFrame_contends l inFlight kind hf leaves] at completes
    generalize (s.noticeReported l f).noticeCompleted (.notice r) = u at completes told stationTold
    have contends := u.contendOrIdle_unchanged
    have line : u.line = l.released := told .line (by decide)
    have access : u.access = { s.access with n := 0, frame := none } := told .access (by decide)
    have change : (toActive ∨ toUnjoined) ↔ s.NoticeJoins r := or_iff_left leaves
    refine ⟨_, completes, told .engine (by decide), told .counters (by decide), line, ?_, ?_, ?_, ?_, ?_,
      fun leaves' => absurd leaves' leaves, fun _ => ⟨(same.append (told.append contends)).mono (by decide), ?_, ?_⟩⟩
    · show _ → u.line.idle = true ∧ u.line.quiet = 0
      rwa [line]
    · show u.station.lastSentH = f.h
      rw [stationTold, station]
    · show u.access.n = 0
      rw [access]
    · rw [State.de, u.contendOrIdle_access]
      cases u.contendOrIdle.wantsLine <;> rfl
    · show u.station.stateChange = _
      rw [stationTold, station]
      simp only [change]
      rfl
    · refine stationTold.trans ?_
      have change : u.contendOrIdle.station.stateChange = _ := congrArg Station.stateChange stationTold
      rw [change, station]
      rfl
    · rw [u.contendOrIdle_access, access]

end Sys2Proof.Machine
end

/-! SUPPORT. A completed message's frame (R106, R107, R117): one attempt more, and then the window or the resolution. -/

section
namespace Sys2Proof.Machine

-- One proof at a time: a thread for each that waits for the same case split can run the checker out of memory.
set_option Elab.async false

/-! ### The LEAVE notice at a resolution -/

/-- R52: the LEAVE notice is placed in LEAVING with every queue empty. -/
theorem State.watchQueues_leave (s : State) : s.watchQueues.station.notices.leave = true ↔
    s.station.notices.leave = true ∨ (s.station.state = .leaving ∧ ∀ d ∈ destinations, s.queue d = []) := by
  have empty : s.queuesEmpty = true ↔ ∀ d ∈ destinations, s.queue d = [] := by simp [State.queuesEmpty]
  by_cases hs : s.station.state = .leaving
  · simp [State.watchQueues_leaving hs, hs, empty]
  · simp [State.watchQueues, hs]

/-- R117: the resolution that empties the last queue places the LEAVE notice (notes/assumptions 16). -/
theorem State.resolve_leave {s : State} {i : Nat} {m : Message} (hm : (s.slot i).msg = some m) (hl : m.Live)
    (r : MsgResult) : (s.resolve i r).station.notices.leave = true ↔ s.station.notices.leave = true ∨
      (s.station.state = .leaving ∧ ∀ d ∈ destinations, (s.resolve i r).queue d = []) := by
  have handed : ((s.dequeue m.dest i).handOutcome i m r).station = s.station := by
    rw [State.handOutcome]
    split <;> exact s.modQueue_station _ _
  simp only [s.resolve_live i r m hm hl, State.watchQueues_leave, handed,
    State.queue_congr (State.watchQueues_outbound _)]

/-! ### The message sent -/

/-- R106: one attempt more. -/
def State.attemptCounted (s : State) (i : Nat) : State :=
  s.modMessage i fun m => { m with attempts := m.attempts + 1 }

/-- R107: the message awaits its reply. -/
def State.replyAwaited (s : State) (i : Nat) (mark : Option Mark) : State :=
  (s.attemptCounted i).modMessage i fun m => { m with state := .awaitReply mark }

/-- R107: the DATAGRAM message is resolved. -/
def State.datagramSent (s : State) (i : Nat) : State := ((s.attemptCounted i).resolve i .sent).clearInFlight

theorem State.replyAwaited_unchanged (s : State) (i : Nat) (mark : Option Mark) :
    UnchangedBut [.outbound] s (s.replyAwaited i mark) :=
  (s.modMessage_unchanged i _).trans (State.modMessage_unchanged _ i _)

theorem State.datagramSent_unchanged (s : State) (i : Nat) :
    UnchangedBut [.station, .outbound, .outcomes, .engine] s (s.datagramSent i) :=
  (((s.modMessage_moves i _).trans (State.resolve_moves _ i .sent)).unchanged.append
    (State.modEngine_unchanged _ _)).mono (by decide)

theorem State.replyAwaited_slot_other (s : State) {i j : Nat} (mark : Option Mark) (hne : j ≠ i) :
    (s.replyAwaited i mark).slot j = s.slot j :=
  (State.slot_modMessage_other _ i j _ hne).trans (s.slot_modMessage_other i j _ hne)

theorem State.replyAwaited_queue (s : State) (i d : Nat) (mark : Option Mark) :
    (s.replyAwaited i mark).queue d = s.queue d :=
  (State.queue_modMessage _ i d _).trans (s.queue_modMessage i d _)

theorem State.datagramSent_slot_other (s : State) {i j : Nat} (hne : j ≠ i) :
    (s.datagramSent i).slot j = s.slot j :=
  (State.resolve_slot_other _ i .sent hne).trans (s.slot_modMessage_other i j _ hne)

section
variable {s : State} {i : Nat} {m : Message} (hm : (s.slot i).msg = some m)
include hm

theorem State.replyAwaited_slot (mark : Option Mark) : (s.replyAwaited i mark).slot i =
    ⟨(s.slot i).tag, some { m with attempts := m.attempts + 1, state := .awaitReply mark }⟩ := by
  rw [State.replyAwaited, State.slot_modMessage_self, State.attemptCounted, State.slot_modMessage_self, hm]
  rfl

theorem State.attemptCounted_slot :
    ((s.attemptCounted i).slot i).msg = some { m with attempts := m.attempts + 1 } := State.slot_modMessage_of hm _

variable (hl : m.Live)
include hl

/-- Of the station controller only the LEAVE notice can change (R52, R117). -/
theorem State.datagramSent_leave : (s.datagramSent i).station.notices.leave = true ↔
    s.station.notices.leave = true ∨
      (s.station.state = .leaving ∧ ∀ d ∈ destinations, (s.datagramSent i).queue d = []) := by
  have placed := State.resolve_leave (State.attemptCounted_slot hm) hl .sent
  rwa [show (s.attemptCounted i).station = s.station from s.modMessage_station i _] at placed

variable (h : StoreConsistent s)
include h

theorem State.datagramSent_owed : (s.datagramSent i).owedOutcomes =
    s.owedOutcomes ++ [⟨i, (s.slot i).tag, m.dest, .sent, m.attempts + 1⟩] := by
  refine (State.resolve_owed (State.attemptCounted_slot hm) hl .sent (h.recount (· + 1) hm hl)).trans ?_
  rw [State.attemptCounted, State.modMessage_owed hm hl hl, State.outcomeOf, State.slot_modMessage_self]

theorem State.datagramSent_queue (d : Nat) : (s.datagramSent i).queue d = (s.queue d).filter fun j => j ≠ i := by
  refine (State.resolve_queue (State.attemptCounted_slot hm) hl .sent (h.recount (· + 1) hm hl) d).trans ?_
  rw [State.attemptCounted, State.queue_modMessage]

end

theorem State.datagramSent_station (s : State) (i : Nat) : (s.datagramSent i).station =
    { s.station with notices := { s.station.notices with leave := (s.datagramSent i).station.notices.leave } } :=
  ((s.modMessage_moves i _).trans (State.resolve_moves _ i .sent)).1.station

/-- The hold condition is read from nothing that a resolution changes (R50). -/
theorem State.datagramSent_holdCondition (s : State) (i : Nat) :
    (s.datagramSent i).holdCondition = s.holdCondition := by
  obtain ⟨⟨_, _, _, _, _, settled⟩, -⟩ := (s.modMessage_moves i fun m => { m with attempts := m.attempts + 1 }).trans
    (State.resolve_moves _ i .sent)
  rw [State.datagramSent, State.attemptCounted, settled]
  rfl

theorem State.datagramSent_engine (s : State) (i : Nat) :
    (s.datagramSent i).engine = { s.engine with inFlight := .none } := by
  have same := ((s.modMessage_moves i fun m => { m with attempts := m.attempts + 1 }).trans
    (State.resolve_moves _ i .sent)).2.2
  rw [← same]
  rfl

/-! ### The command -/

section
variable {s : State} {f : Frame} {i : Nat} {m : Message} {mark : Option Mark} (l : Line)
  (h : SendsMessage s f i m) (hs : m.state = .onLine mark)
include h hs

theorem State.completeFrame_acked (acked : m.cls = .acked) : s.completeFrame l f =
    ((s.frameReported l f).replyAwaited i mark).modAccess fun a =>
      { a with state := .awaitReply, occupied := false } := by
  obtain ⟨⟨sending, -⟩, inFlight, hm, kind⟩ := h
  have kind : f.kind = .data := by rw [kind, acked]; rfl
  have completed : (s.frameReported l f).completeInFlight = (s.frameReported l f).replyAwaited i mark := by
    rw [State.completeInFlight, show (s.frameReported l f).engine.inFlight = .message i from inFlight]
    simp only [show ((s.frameReported l f).slot i).msg = some m from hm, hs, acked]
    rfl
  have on : ((s.frameReported l f).replyAwaited i mark).access.state ≠ .off := by
    rw [State.replyAwaited_unchanged _ _ _ .access (by decide)]
    show s.access.state ≠ .off
    simp [sending]
  rw [s.completeFrame_eq, completed, kind]
  exact (if_neg on).trans (if_pos rfl)

theorem State.completeFrame_datagram (datagram : m.cls = .datagram) : s.completeFrame l f =
    ((s.frameReported l f).datagramSent i).contendOrIdle := by
  obtain ⟨⟨sending, -⟩, inFlight, hm, kind⟩ := h
  have kind : f.kind = .datagram := by rw [kind, datagram]; rfl
  have completed : (s.frameReported l f).completeInFlight = (s.frameReported l f).datagramSent i := by
    rw [State.completeInFlight, show (s.frameReported l f).engine.inFlight = .message i from inFlight]
    simp only [show ((s.frameReported l f).slot i).msg = some m from hm, hs, datagram]
    rfl
  have on : ((s.frameReported l f).datagramSent i).access.state ≠ .off := by
    rw [State.datagramSent_unchanged _ _ .access (by decide)]
    show s.access.state ≠ .off
    simp [sending]
  rw [s.completeFrame_eq, completed, kind]
  exact State.afterContended_contends on nofun

end

/-- R48: no message's frame takes a notice out of the set. -/
theorem State.frameReported_station_message {s : State} {f : Frame} {m : Message} (l : Line)
    (kind : f.kind = m.cls.frameKind) : (s.frameReported l f).station = { s.station with
      lastSentH := f.h
      beacon := .running (s.station.config.beacon * 100)
      renewal := if s.inbound.h then .running (s.station.config.holdTime * 10 / 2) else s.station.renewal
      notices := { s.station.notices with beacon := false, hold := (s.frameReported l f).holdCondition } } := by
  refine (s.frameReported_station l f).trans ?_
  rw [NoticeSet.completed_of_not_notice _ (kind := f.kind) (by rw [kind]; cases m.cls <;> nofun)]

/-- Settles O30: the frame reported, and then the window opened or the message resolved. -/
theorem messageFrameCompletes : Obligations.MessageFrameCompletes := by
  unfold Obligations.MessageFrameCompletes
  intro s f i m mark rxd h hs hr reported
  have completes := exec_frameComplete h.1 hr
  generalize (s.line.compare f.bytes rxd).1 = l at completes ⊢
  obtain ⟨-, -, hm, kind⟩ := id h
  have same := s.frameReported_unchanged l f
  have station := State.frameReported_station_message (s := s) l kind
  refine ⟨fun acked => ?_, fun datagram consistent => ?_⟩
  · rw [State.completeFrame_acked l h hs acked] at completes
    have awaits := (s.frameReported l f).replyAwaited_unchanged i mark
    refine ⟨_, completes, ((same.append awaits).append (State.modAccess_unchanged _ _)).mono (by decide),
      awaits .counters (by decide), awaits .line (by decide), ?_, ?_,
      State.replyAwaited_slot (s := s.frameReported l f) hm mark,
      fun j hj => State.replyAwaited_slot_other _ mark hj, fun d => State.replyAwaited_queue _ i d mark⟩
    · have kept : ((s.frameReported l f).replyAwaited i mark).station = _ := awaits .station (by decide)
      have condition := State.holdCondition_congr kept (congrArg Inbound.h (awaits .inbound (by decide)))
      exact kept.trans (station.trans (by rw [← condition]; rfl))
    · show ({ ((s.frameReported l f).replyAwaited i mark).access with state := _, occupied := _ } : Access) = _
      rw [show ((s.frameReported l f).replyAwaited i mark).access = _ from awaits .access (by decide)]
      rfl
  · rw [State.completeFrame_datagram l h hs datagram] at completes
    have hl : m.Live := by simp [Message.Live, hs]
    have consistent : StoreConsistent (s.frameReported l f) := consistent
    have sent := (s.frameReported l f).datagramSent_unchanged i
    refine ⟨_, completes, ((same.append sent).append (State.contendOrIdle_unchanged _)).mono (by decide),
      sent .counters (by decide), sent .line (by decide), State.datagramSent_engine _ i, ?_, ?_,
      State.datagramSent_owed (s := s.frameReported l f) hm hl consistent,
      State.datagramSent_queue (s := s.frameReported l f) hm hl consistent,
      fun j hj => State.datagramSent_slot_other (s.frameReported l f) hj, ?_⟩
    · refine (State.datagramSent_station _ i).trans ?_
      rw [station, ← State.datagramSent_holdCondition _ i]
      rfl
    · refine (State.datagramSent_leave (s := s.frameReported l f) hm hl).trans ?_
      rw [station]
      rfl
    · rw [State.contendOrIdle_access,
        show ((s.frameReported l f).datagramSent i).access = _ from sent .access (by decide)]
      rfl

end Sys2Proof.Machine
end

/-! SUPPORT. The order for LINE_FAULT (R36, R55): what it leaves in each state of the station. -/

section
namespace Sys2Proof.Machine

-- One proof at a time: a thread for each that waits for the same case split can run the checker out of memory.
set_option Elab.async false

/-! ### The station -/

/-- The station in LINE_FAULT with its reason (R55, R57). -/
def Station.fault (st : Station) (reason : FaultReason) : Station :=
  { st with state := .lineFault, faultReason := reason, notices := NoticeSet.empty, stateChange := true }

/-- The station in UNJOINED after a fault (R53, R55, R57). -/
def Station.unjoinFor (st : Station) (reason : FaultReason) : Station :=
  { st.unjoin with faultReason := reason, stateChange := true }

section
variable {s t : State} (h : Settles s t)
include h

/-- R55 clears the notices, and of the station only the LEAVE notice can have changed. -/
theorem Settles.station_fault (reason : FaultReason) : t.station.fault reason = s.station.fault reason := by
  rw [h.station]
  rfl

theorem Settles.station_unjoin : t.station.unjoin = s.station.unjoin := by
  rw [h.station]
  rfl

theorem Settles.station_unjoinFor (reason : FaultReason) :
    t.station.unjoinFor reason = s.station.unjoinFor reason := by
  rw [Station.unjoinFor, h.station_unjoin]
  rfl

end

/-! ### The three states -/

/-- R36, R37: the station in LINE_FAULT, the access controller in OFF with the recovery count started. -/
def State.faulted (s : State) (reason : FaultReason) : State :=
  (s.modStation fun st => st.fault reason).modAccess fun _ => { Access.reset with recovery := true }

/-- R55: the reason alone. -/
def State.blamed (s : State) (reason : FaultReason) : State := s.modStation fun st => { st with faultReason := reason }

theorem State.faulted_unchanged (s : State) (reason : FaultReason) :
    UnchangedBut [.station, .access] s (s.faulted reason) :=
  (s.modStation_unchanged _).append (State.modAccess_unchanged _ _)

theorem State.blamed_unchanged (s : State) (reason : FaultReason) : UnchangedBut [.station] s (s.blamed reason) :=
  s.modStation_unchanged _

/-- What is in flight and where the access controller stands is read alike before and after. -/
theorem Moves.windowSettled {s t : State} (h : Moves s t) (settled : s.WindowSettled) : t.WindowSettled := by
  obtain ⟨settles, -, engine⟩ := h
  rwa [State.WindowSettled, settles.access, engine]

/-- R55, R93: the reason, and in LEAVING every message abandoned. -/
def State.faultResolved (s : State) (station : StationState) (reason : FaultReason) : State :=
  if station = .leaving then (s.blamed reason).abandonAll else s.blamed reason

theorem State.faultResolved_leaving (s : State) (reason : FaultReason) :
    s.faultResolved .leaving reason = (s.blamed reason).abandonAll := rfl

theorem State.faultResolved_moves (s : State) (station : StationState) (reason : FaultReason) :
    Moves (s.blamed reason) (s.faultResolved station reason) := by
  unfold State.faultResolved
  split
  exacts [State.abandonAll_moves _, .refl _]

section
variable {s c : State} (closed : s.closeOpenWindow = c) (settled : c.WindowSettled) (reason : FaultReason)
include closed settled

theorem State.lineFault_active (active : s.station.state = .active) : s.lineFault reason = c.faulted reason := by
  simp only [State.lineFault, active, closed]
  rw [State.enterOff_settled (by exact settled)]
  rfl

theorem State.lineFault_unjoins (h : s.station.state = .joining ∨ s.station.state = .leaving) :
    s.lineFault reason = (c.faultResolved s.station.state reason).unjoinFlagged := by
  have blamed : (c.blamed reason).WindowSettled := settled
  have resolved := (c.faultResolved_moves s.station.state reason).windowSettled blamed
  rw [← State.enterUnjoined_flagChange resolved]
  rcases h with joining | leaving
  · simp only [State.lineFault, joining, closed]
    rfl
  · simp only [State.lineFault, leaving, closed]
    rfl

end

/-! ### UNJOINED after a fault -/

/-- R36, R53: every order of a line fault that ends in UNJOINED. -/
def State.faultUnjoined (s : State) (station : StationState) (reason : FaultReason) : State :=
  (s.faultResolved station reason).unjoinFlagged

section
variable (s : State) (station : StationState) (reason : FaultReason)

theorem State.faultUnjoined_unchanged :
    UnchangedBut [.station, .peers, .outbound, .outcomes, .access] s (s.faultUnjoined station reason) :=
  (((s.blamed_unchanged reason).append (s.faultResolved_moves station reason).unchanged).append
    (State.unjoinFlagged_unchanged _)).mono (by decide)

theorem State.faultUnjoined_station : (s.faultUnjoined station reason).station = s.station.unjoinFor reason := by
  rw [State.faultUnjoined, State.unjoinFlagged_station, (s.faultResolved_moves station reason).1.station_unjoin]
  rfl

/-- A join under way has nothing to abandon. -/
theorem State.faultUnjoined_joining : s.faultUnjoined .joining reason = (s.blamed reason).unjoinFlagged := rfl

theorem State.faultUnjoined_access : (s.faultUnjoined station reason).access = Access.reset := rfl

theorem State.faultUnjoined_peersKept : PeersKept s (s.faultUnjoined station reason) := by
  intro a
  have same := State.peer_congr (s.faultResolved_moves station reason).2.1 a
  rw [State.faultUnjoined, State.unjoinFlagged_peersKept, same]
  rfl

theorem State.unjoinFlagged_owed : s.unjoinFlagged.owedOutcomes = s.owedOutcomes := rfl

/-- R93: in LEAVING what the host is owed grows by every waiting message's outcome. -/
theorem State.faultUnjoined_owed {s : State} (h : StoreConsistent s) (reason : FaultReason) :
    (s.faultUnjoined .leaving reason).owedOutcomes =
      s.owedOutcomes ++ destinations.flatMap (s.bulkOutcomes .abandoned) := by
  have abandoned := State.abandonAll_owed (h.of_unchanged (s.blamed_unchanged reason))
  rw [State.faultUnjoined, State.unjoinFlagged_owed, State.faultResolved_leaving, abandoned]
  rfl

end

end Sys2Proof.Machine
end

/-! SUPPORT. The withdrawal of a contended frame at a collision (R28, R105). -/

section
namespace Sys2Proof.Machine

-- One proof at a time: a thread for each that waits for the same case split can run the checker out of memory.
set_option Elab.async false

/-! ### The item in flight -/

theorem State.withdrawInFlight_notice {s : State} {r : Reason} (h : s.engine.inFlight = .notice r) :
    s.withdrawInFlight = s.clearInFlight := by
  rw [State.withdrawInFlight, h]

/-- R105: the message is QUEUED again where it stands. -/
def State.requeued (s : State) (i : Nat) (m : Message) : State :=
  s.setSlot i ⟨(s.slot i).tag, some { m with state := .queued }⟩

theorem State.modMessage_of {s : State} {i : Nat} {m : Message} (hm : (s.slot i).msg = some m)
    (f : Message → Message) : s.modMessage i f = s.setSlot i ⟨(s.slot i).tag, some (f m)⟩ := by
  rw [State.modMessage, hm]

section
variable {s : State} {i : Nat} {m : Message} (inFlight : s.engine.inFlight = .message i)
  (hm : (s.slot i).msg = some m)
include inFlight hm

theorem State.withdrawInFlight_unmarked (hs : m.state = .onLine none) :
    s.withdrawInFlight = (s.requeued i m).clearInFlight := by
  rw [State.withdrawInFlight, inFlight]
  simp only [hm, hs]
  rw [State.modMessage_of hm]
  rfl

theorem State.withdrawInFlight_marked {k : Mark} (hs : m.state = .onLine (some k)) :
    s.withdrawInFlight = (s.resolve i k.result).clearInFlight := by
  rw [State.withdrawInFlight, inFlight]
  simp only [hm, hs]

end

/-- A resolution or a change of the message, and then nothing is in flight (R105). -/
theorem State.withdrawInFlight_moves (s : State) : ∃ u, Moves s u ∧ s.withdrawInFlight = u.clearInFlight := by
  unfold State.withdrawInFlight
  split
  · split
    · exact ⟨s, .refl s, rfl⟩
    · split
      exacts [⟨_, s.resolve_moves _ _, rfl⟩, ⟨_, s.modMessage_moves _ _, rfl⟩, ⟨s, .refl s, rfl⟩]
  · exact ⟨s, .refl s, rfl⟩

/-- A message that does not wait is no part of a resolution of many, so its own leaves the others theirs (R93). -/
theorem State.resolve_bulkOutcomes {s : State} {i : Nat} {m : Message} (hm : (s.slot i).msg = some m) (hl : m.Live)
    (h : StoreConsistent s) {r' : MsgResult} (hb : s.bulkOutcome r' i = none) (r : MsgResult) (d : Nat) :
    (s.resolve i r).bulkOutcomes r' d = s.bulkOutcomes r' d := by
  rw [State.bulkOutcomes, State.resolve_queue hm hl r h, List.filterMap_filter]
  refine List.filterMap_congr fun j _ => ?_
  by_cases hji : j = i
  · simp [hji, hb]
  · simpa [hji] using State.bulkOutcome_congr (s.resolve_slot_other i r hji) r'

/-! ### The frame withdrawn -/

/-- The collision counted, DE released and the access controller in DEFER, the item still in flight (R28). -/
def State.collided (s : State) (l : Line) : State :=
  ((s.endDrive l).modAccess fun a => { a with state := .defer }).count .collisions

/-- R28, R105: and the item in flight withdrawn. -/
def State.withdrawn (s : State) (l : Line) : State := (s.collided l).withdrawInFlight

section
variable (s : State) (l : Line)

theorem State.collided_unchanged : UnchangedBut [.line, .access, .counters] s (s.collided l) :=
  (((s.endDrive_unchanged l).append (State.modAccess_unchanged _ _)).append (State.count_unchanged _ _)).mono
    (by decide)

theorem State.withdrawn_unchanged :
    UnchangedBut [.line, .access, .counters, .station, .outbound, .outcomes, .engine] s (s.withdrawn l) := by
  obtain ⟨u, moves, withdrawn⟩ := (s.collided l).withdrawInFlight_moves
  rw [State.withdrawn, withdrawn]
  exact (((s.collided_unchanged l).append moves.unchanged).append (State.modEngine_unchanged _ _)).mono (by decide)

theorem State.withdrawn_settles : Settles (s.collided l) (s.withdrawn l) := by
  obtain ⟨u, ⟨settles, -⟩, withdrawn⟩ := (s.collided l).withdrawInFlight_moves
  rw [State.withdrawn, withdrawn]
  exact settles.trans ⟨_, _, _, _, _, rfl⟩

theorem State.withdrawn_line : (s.withdrawn l).line = l.released := (s.withdrawn_settles l).line

theorem State.withdrawn_access : (s.withdrawn l).access = { s.access with state := .defer, frame := none } :=
  (s.withdrawn_settles l).access

theorem State.withdrawn_counters : (s.withdrawn l).counters = s.counters.bump .collisions :=
  (s.withdrawn_settles l).counters

theorem State.withdrawn_engine : (s.withdrawn l).engine = { s.engine with inFlight := .none } := by
  obtain ⟨u, ⟨-, -, engine⟩, withdrawn⟩ := (s.collided l).withdrawInFlight_moves
  rw [State.withdrawn, withdrawn]
  show ({ u.engine with inFlight := .none } : Engine) = _
  rw [engine]
  rfl

end

section
variable {s : State} (l : Line)

/-- The blocks of a collision that withdraws the frame and leaves the messages as in `u` (R28). -/
abbrev CollidesWith (s u : State) (l : Line) (t : State) : Prop := t = { u with
  line := l.released
  access := { s.access with state := .defer, frame := none }
  engine := { s.engine with inFlight := .none }
  counters := s.counters.bump .collisions }

theorem State.withdrawn_notice {r : Reason} (h : s.engine.inFlight = .notice r) :
    CollidesWith s s l (s.withdrawn l) := State.withdrawInFlight_notice (s := s.collided l) h

theorem State.withdrawn_unmarked {f : Frame} {i : Nat} {m : Message} (h : SendsMessage s f i m)
    (hs : m.state = .onLine none) : CollidesWith s (s.requeued i m) l (s.withdrawn l) := by
  obtain ⟨-, inFlight, hm, -⟩ := h
  exact State.withdrawInFlight_unmarked (s := s.collided l) inFlight hm hs

end

end Sys2Proof.Machine
end

/-! SUPPORT. A collision below the limit and at it (R28, R29, R54). -/

section
namespace Sys2Proof.Machine

-- One proof at a time: a thread for each that waits for the same case split can run the checker out of memory.
set_option Elab.async false

/-! ### A marked message withdrawn -/

section
variable {s : State} {f : Frame} {i : Nat} {m : Message} {k : Mark} (l : Line) (h : SendsMessage s f i m)
  (hs : m.state = .onLine (some k))
include h hs

theorem State.withdrawn_marked : s.withdrawn l = ((s.collided l).resolve i k.result).clearInFlight := by
  obtain ⟨-, inFlight, hm, -⟩ := h
  exact State.withdrawInFlight_marked (s := s.collided l) inFlight hm hs

theorem State.withdrawn_marked_slot_other {j : Nat} (hne : j ≠ i) : (s.withdrawn l).slot j = s.slot j := by
  rw [State.withdrawn_marked l h hs]
  exact (s.collided l).resolve_slot_other i k.result hne

variable (consistent : StoreConsistent s)
include consistent

theorem State.withdrawn_marked_owed :
    (s.withdrawn l).owedOutcomes = s.owedOutcomes ++ [s.outcomeOf k.result i m] := by
  obtain ⟨-, -, hm, -⟩ := id h
  rw [State.withdrawn_marked l h hs]
  exact State.resolve_owed (s := s.collided l) hm (by simp [Message.Live, hs]) k.result consistent

theorem State.withdrawn_marked_queue (d : Nat) :
    (s.withdrawn l).queue d = (s.queue d).filter fun j => j ≠ i := by
  obtain ⟨-, -, hm, -⟩ := id h
  rw [State.withdrawn_marked l h hs]
  exact State.resolve_queue (s := s.collided l) hm (by simp [Message.Live, hs]) k.result consistent d

/-- The messages that wait, wait as before (R93). -/
theorem State.withdrawn_marked_bulkOutcomes (r : MsgResult) (d : Nat) :
    (s.withdrawn l).bulkOutcomes r d = s.bulkOutcomes r d := by
  obtain ⟨-, -, hm, -⟩ := id h
  rw [State.withdrawn_marked l h hs]
  have unwaiting : s.bulkOutcome r i = none := by simp [State.bulkOutcome, hm, hs]
  exact State.resolve_bulkOutcomes (s := s.collided l) hm (by simp [Message.Live, hs]) consistent unwaiting k.result d

end

/-! ### Below the limit -/

section
variable {s : State} (l : Line)

/-- The access controller defers with one collision more (R28). -/
def State.deferred (s : State) (l : Line) : State := (s.withdrawn l).modAccess fun a => { a with n := a.n + 1 }

theorem State.deferred_access (s : State) (l : Line) :
    (s.deferred l).access = { s.access with state := .defer, frame := none, n := s.access.n + 1 } := by
  show ({ (s.withdrawn l).access with n := (s.withdrawn l).access.n + 1 } : Access) = _
  rw [s.withdrawn_access l]

theorem State.collide_defers (below : s.access.n < 15)
    (stays : ¬ (s.station.state = .joining ∧ s.station.leavePending = true)) : s.collide l = s.deferred l :=
  (if_neg (Nat.not_le.mpr below)).trans (if_neg stays)

/-- R54: a leave pending ends the join. -/
theorem State.collide_unjoins (below : s.access.n < 15) (joining : s.station.state = .joining)
    (pending : s.station.leavePending = true) : s.collide l = (s.deferred l).unjoinFlagged := by
  refine ((if_neg (Nat.not_le.mpr below)).trans (if_pos ⟨joining, pending⟩)).trans
    (State.enterUnjoined_flagChange (.inr ?_))
  show (s.withdrawn l).engine.inFlight = .none
  rw [s.withdrawn_engine l]

/-- R28 where the messages end as in `u`. -/
theorem CollidesWith.deferred {u : State} (h : CollidesWith s u l (s.withdrawn l)) : s.deferred l = { u with
    line := l.released
    access := { s.access with state := .defer, frame := none, n := s.access.n + 1 }
    engine := { s.engine with inFlight := .none }
    counters := s.counters.bump .collisions } := by
  rw [State.deferred, h]
  rfl

end

/-- Settles O31: the withdrawal of each item, and the end of a join. -/
theorem collisionWithdrawsFrame : Obligations.CollisionWithdrawsFrame := by
  unfold Obligations.CollisionWithdrawsFrame
  intro s f rxd hf hr below line
  have collides := exec_collision hf hr
  generalize hl : (s.line.compare f.bytes rxd).1 = l at collides
  have released : line = l.released := congrArg Line.released hl
  rw [released]
  refine ⟨fun stays => ?_, fun joining pending r inFlight => ?_⟩
  · rw [State.collide_defers l below stays] at collides
    refine ⟨fun r inFlight => ?_, fun i m h hs => ?_, fun i m k h hs consistent => ?_⟩
    · rw [collides, (State.withdrawn_notice l inFlight).deferred]
    · rw [collides, (State.withdrawn_unmarked l h hs).deferred]
      rfl
    · exact ⟨_, collides, ((s.withdrawn_unchanged l).append (State.modAccess_unchanged _ _)).mono (by decide),
        s.withdrawn_line l, s.deferred_access l, s.withdrawn_counters l, s.withdrawn_engine l,
        State.withdrawn_marked_owed l h hs consistent, State.withdrawn_marked_queue l h hs consistent⟩
  · rw [State.collide_unjoins l below joining pending, (State.withdrawn_notice l inFlight).deferred] at collides
    refine ⟨_, collides, ?_, rfl, rfl, rfl, rfl, rfl, State.unjoinFlagged_peersKept _⟩
    intro b hb
    cases b
    case line | access | station | peers | engine | counters => exact absurd (by decide) hb
    all_goals rfl

/-! ### At the limit -/

/-- R29: the withdrawal with n at 0, from which the line fault is ordered. -/
def State.collidedOut (s : State) (l : Line) : State := (s.withdrawn l).modAccess fun a => { a with n := 0 }

section
variable {s : State} (l : Line)

theorem State.collide_faults (limit : s.access.n = 15) : s.collide l = (s.collidedOut l).lineFault .collisions :=
  if_pos (Nat.le_of_eq limit.symm)

theorem State.collidedOut_settled (s : State) (l : Line) : (s.collidedOut l).WindowSettled := by
  right
  show (s.withdrawn l).engine.inFlight = .none
  rw [s.withdrawn_engine l]

theorem State.collidedOut_closed (s : State) (l : Line) : (s.collidedOut l).closeOpenWindow = s.collidedOut l := by
  refine if_neg ?_
  show (s.withdrawn l).access.state ≠ .awaitReply
  rw [s.withdrawn_access l]
  nofun

theorem State.collidedOut_unchanged (s : State) (l : Line) :
    UnchangedBut [.line, .access, .counters, .station, .outbound, .outcomes, .engine] s (s.collidedOut l) :=
  ((s.withdrawn_unchanged l).append (State.modAccess_unchanged _ _)).mono (by decide)

theorem State.collidedOut_state (s : State) (l : Line) : (s.collidedOut l).station.state = s.station.state :=
  (s.withdrawn_settles l).station_state

theorem State.collide_lineFault (limit : s.access.n = 15) (active : s.station.state = .active) :
    s.collide l = (s.collidedOut l).faulted .collisions :=
  (State.collide_faults l limit).trans (State.lineFault_active (s.collidedOut_closed l) (s.collidedOut_settled l) _
    ((s.collidedOut_state l).trans active))

theorem State.collide_faultUnjoined (limit : s.access.n = 15)
    (h : s.station.state = .joining ∨ s.station.state = .leaving) :
    s.collide l = (s.collidedOut l).faultUnjoined s.station.state .collisions := by
  have state := s.collidedOut_state l
  rw [State.collide_faults l limit, State.lineFault_unjoins (s.collidedOut_closed l) (s.collidedOut_settled l) _
    (by rwa [state]), state]
  rfl

end

/-! ### What the withdrawal leaves of the store -/

/-- A block that stands after all. -/
theorem UnchangedBut.restored {changed : List Block} {s t : State} {b : Block} (h : UnchangedBut (b :: changed) s t)
    (same : b.Same s t) : UnchangedBut changed s t := by
  intro c hc
  by_cases hcb : c = b
  · exact hcb ▸ same
  · exact h c (by simp [hcb, hc])

/-- R29: the blocks that a collision at the limit can change. -/
abbrev FaultsFrom (s t : State) : Prop :=
  UnchangedBut [.line, .access, .station, .peers, .outbound, .engine, .outcomes, .counters] s t

section
variable {s t : State} {f : Frame} {l : Line} (same : FaultsFrom s t)
  (outbound : t.outbound = (s.withdrawn l).outbound) (outcomes : t.outcomes = (s.withdrawn l).outcomes)
include outcomes

theorem State.owed_of_withdrawn (outbound : t.outbound = (s.withdrawn l).outbound) :
    t.owedOutcomes = (s.withdrawn l).owedOutcomes :=
  State.owedOutcomes_congr outcomes fun j _ => State.doneOutcome_congr (State.slot_congr outbound j)

include same outbound

theorem FaultsFrom.notice {r : Reason} (h : s.engine.inFlight = .notice r) :
    UnchangedBut [.line, .access, .station, .peers, .engine, .counters] s t := by
  rw [State.withdrawn_notice l h] at outbound outcomes
  have reordered : UnchangedBut [.outbound, .outcomes, .line, .access, .station, .peers, .engine, .counters] s t :=
    same.mono (by decide)
  exact (reordered.restored outbound).restored outcomes

theorem FaultsFrom.unmarked {i : Nat} {m : Message} (h : SendsMessage s f i m) (hs : m.state = .onLine none) :
    UnchangedBut [.line, .access, .station, .peers, .outbound, .engine, .counters] s t ∧
      t.slot i = ⟨(s.slot i).tag, some { m with state := .queued }⟩ ∧
      (∀ j, j ≠ i → t.slot j = s.slot j) ∧ (∀ d, t.queue d = s.queue d) := by
  obtain ⟨-, -, hm, -⟩ := id h
  rw [State.withdrawn_unmarked l h hs] at outbound outcomes
  have outbound : t.outbound = (s.requeued i m).outbound := outbound
  have reordered : UnchangedBut [.outcomes, .line, .access, .station, .peers, .outbound, .engine, .counters] s t :=
    same.mono (by decide)
  refine ⟨reordered.restored outcomes, ?_, fun j hj => ?_, State.queue_congr (s := s.requeued i m) outbound⟩
  · rw [State.slot_congr outbound]
    exact s.slot_setSlot_self i _ (s.slot_lt i m hm)
  · rw [State.slot_congr outbound]
    exact s.slot_setSlot_other i j _ hj

omit same in
theorem FaultsFrom.marked {i : Nat} {m : Message} {k : Mark} (h : SendsMessage s f i m)
    (hs : m.state = .onLine (some k)) (consistent : StoreConsistent s) :
    t.owedOutcomes = s.owedOutcomes ++ [s.outcomeOf k.result i m] ∧
      (∀ d, t.queue d = (s.queue d).filter fun j => j ≠ i) ∧ (∀ j, j ≠ i → t.slot j = s.slot j) := by
  refine ⟨?_, fun d => ?_, fun j hj => ?_⟩
  · rw [State.owed_of_withdrawn outcomes outbound, State.withdrawn_marked_owed l h hs consistent]
  · rw [State.queue_congr outbound, State.withdrawn_marked_queue l h hs consistent]
  · rw [State.slot_congr outbound, State.withdrawn_marked_slot_other l h hs hj]

end

/-! ### In LEAVING -/

/-- A message QUEUED again is owed no outcome, and is abandoned with the others. -/
theorem State.requeued_owed {s : State} {i : Nat} {m : Message} (hm : (s.slot i).msg = some m) (hl : m.Live) :
    (s.requeued i m).owedOutcomes = s.owedOutcomes := by
  rw [State.requeued, ← State.modMessage_of hm fun m => { m with state := .queued }]
  exact State.modMessage_owed hm hl nofun

section
variable {s : State} {f : Frame} (l : Line) (h : StoreConsistent s)
include h

theorem State.withdrawn_consistent : StoreConsistent (s.withdrawn l) :=
  StoreConsistent.withdrawInFlight (h.of_unchanged (s.collided_unchanged l))

/-- R93: what the host is owed after the withdrawal, and then every waiting message's outcome. -/
theorem State.collidedOut_abandoned : ((s.collidedOut l).faultUnjoined .leaving .collisions).owedOutcomes =
    (s.withdrawn l).owedOutcomes ++ destinations.flatMap ((s.withdrawn l).bulkOutcomes .abandoned) := by
  have consistent : StoreConsistent (s.collidedOut l) :=
    (State.withdrawn_consistent l h).of_unchanged (State.modAccess_unchanged _ _)
  rw [State.faultUnjoined_owed consistent]
  rfl

theorem State.abandoned_notice {r : Reason} (inFlight : s.engine.inFlight = .notice r) :
    ((s.collidedOut l).faultUnjoined .leaving .collisions).owedOutcomes =
      s.owedOutcomes ++ destinations.flatMap (s.bulkOutcomes .abandoned) := by
  rw [State.collidedOut_abandoned l h, State.withdrawn_notice l inFlight]
  rfl

theorem State.abandoned_unmarked {i : Nat} {m : Message} (sends : SendsMessage s f i m) (hs : m.state = .onLine none) :
    ((s.collidedOut l).faultUnjoined .leaving .collisions).owedOutcomes =
      s.owedOutcomes ++ destinations.flatMap ((s.requeued i m).bulkOutcomes .abandoned) := by
  obtain ⟨-, -, hm, -⟩ := id sends
  rw [State.collidedOut_abandoned l h, State.withdrawn_unmarked l sends hs,
    ← State.requeued_owed hm (by simp [Message.Live, hs])]
  rfl

theorem State.abandoned_marked {i : Nat} {m : Message} {k : Mark} (sends : SendsMessage s f i m)
    (hs : m.state = .onLine (some k)) : ((s.collidedOut l).faultUnjoined .leaving .collisions).owedOutcomes =
      s.owedOutcomes ++ s.outcomeOf k.result i m :: destinations.flatMap (s.bulkOutcomes .abandoned) := by
  have waiting := funext (State.withdrawn_marked_bulkOutcomes l sends hs h .abandoned)
  rw [State.collidedOut_abandoned l h, waiting, State.withdrawn_marked_owed l sends hs h, List.append_assoc]
  rfl

end

/-- Settles O32: the withdrawal, and then the line fault in each state of the station. -/
theorem sixteenthCollisionFaults : Obligations.SixteenthCollisionFaults := by
  unfold Obligations.SixteenthCollisionFaults
  intro s f rxd hf hr limit hs
  have collides := exec_collision hf hr
  generalize (s.line.compare f.bytes rxd).1 = l at collides ⊢
  have out := s.collidedOut_unchanged l
  have settles := s.withdrawn_settles l
  by_cases active : s.station.state = .active
  · rw [State.collide_lineFault l limit active] at collides
    have same : FaultsFrom s ((s.collidedOut l).faulted .collisions) :=
      (out.append (State.faulted_unchanged _ _)).mono (by decide)
    have station : ((s.collidedOut l).faulted .collisions).station = s.station.fault .collisions :=
      settles.station_fault .collisions
    have outbound : ((s.collidedOut l).faulted .collisions).outbound = (s.withdrawn l).outbound := rfl
    have outcomes : ((s.collidedOut l).faulted .collisions).outcomes = (s.withdrawn l).outcomes := rfl
    refine ⟨_, collides, same, s.withdrawn_line l, s.withdrawn_counters l, s.withdrawn_engine l, ?_, rfl, rfl, rfl, ?_,
      fun _ => ⟨out .peers (by decide), station⟩, fun away => absurd active away,
      fun _ => ⟨fun r => same.notice outbound outcomes, fun i m => same.unmarked outbound outcomes,
        fun i m k => FaultsFrom.marked outbound outcomes⟩, fun leaving => nomatch active.symm.trans leaving⟩
    · rw [if_pos active]
      rfl
    · rw [decide_eq_true active]
      rfl
  · have hs := hs.resolve_left active
    rw [State.collide_faultUnjoined l limit hs] at collides
    have same : FaultsFrom s ((s.collidedOut l).faultUnjoined s.station.state .collisions) :=
      (out.append (State.faultUnjoined_unchanged _ _ _)).mono (by decide)
    have station : ((s.collidedOut l).faultUnjoined s.station.state .collisions).station =
        s.station.unjoinFor .collisions :=
      (State.faultUnjoined_station _ _ _).trans (settles.station_unjoinFor .collisions)
    have peers : PeersKept s ((s.collidedOut l).faultUnjoined s.station.state .collisions) := fun a => by
      rw [State.faultUnjoined_peersKept, State.peer_congr (out .peers (by decide))]
    refine ⟨_, collides, same, ?_, ?_, ?_, ?_, by rw [station]; rfl, by rw [station]; rfl, by rw [station]; rfl, ?_,
      fun active' => absurd active' active, fun _ => ⟨peers, station⟩, fun away => ?_, fun leaving consistent => ?_⟩
    · exact Eq.trans (State.faultUnjoined_unchanged _ _ _ .line (by decide)) (s.withdrawn_line l)
    · exact Eq.trans (State.faultUnjoined_unchanged _ _ _ .counters (by decide)) (s.withdrawn_counters l)
    · exact Eq.trans (State.faultUnjoined_unchanged _ _ _ .engine (by decide)) (s.withdrawn_engine l)
    · rw [station, if_neg active]
      rfl
    · rw [State.faultUnjoined_access, decide_eq_false active]
      rfl
    · have joining := hs.resolve_right away
      rw [joining, State.faultUnjoined_joining] at same ⊢
      have outbound : ((s.collidedOut l).blamed .collisions).unjoinFlagged.outbound = (s.withdrawn l).outbound := rfl
      have outcomes : ((s.collidedOut l).blamed .collisions).unjoinFlagged.outcomes = (s.withdrawn l).outcomes := rfl
      exact ⟨fun r => same.notice outbound outcomes, fun i m => same.unmarked outbound outcomes,
        fun i m k => FaultsFrom.marked outbound outcomes⟩
    · rw [leaving]
      exact ⟨fun r => State.abandoned_notice l consistent, fun i m => State.abandoned_unmarked l consistent,
        fun i m k => State.abandoned_marked l consistent⟩

end Sys2Proof.Machine
end

/-! SUPPORT. The stuck-line count (R35, R36, R32): the order for LINE_FAULT, from inside a reply window too. -/

section
namespace Sys2Proof.Machine

-- One proof at a time: a thread for each that waits for the same case split can run the checker out of memory.
set_option Elab.async false

/-! ### The command -/

theorem exec_stuckLine_stands {s : State} (h : s.access.stuck = false ∨ s.access.state = .off ∨ s.de = true) :
    exec .stuckLine s = .next s := by
  refine congrArg Host.Outcome.next (if_neg fun ⟨stuck, on, released⟩ => ?_)
  rcases h with h | h | h
  · exact Bool.false_ne_true (h.symm.trans stuck)
  · exact on h
  · exact Bool.false_ne_true (released.symm.trans h)

theorem exec_stuckLine_faults {s : State} (stuck : s.access.stuck = true)
    (h : s.access.state ∉ [.off, .sending, .replying]) : exec .stuckLine s = .next (s.lineFault .lineStuck) := by
  simp only [List.mem_cons, List.not_mem_nil, or_false, not_or] at h
  obtain ⟨on, notSending, notReplying⟩ := h
  exact congrArg Host.Outcome.next (if_pos ⟨stuck, on, by simp [State.de, notSending, notReplying]⟩)

section
variable {s : State} (stuck : s.access.stuck = true)
include stuck

section
variable (h : s.access.state ∉ [.off, .sending, .replying, .awaitReply])
include h

theorem exec_stuckLine_outside : exec .stuckLine s = .next (s.lineFault .lineStuck) :=
  exec_stuckLine_faults stuck fun listed => h ((show [AccessState.off, .sending, .replying] ⊆
    [.off, .sending, .replying, .awaitReply] by decide) listed)

omit stuck in
theorem State.outside_window : s.access.state ≠ .awaitReply := by
  rintro awaiting
  simp [awaiting] at h

theorem exec_stuckLine_active (active : s.station.state = .active) :
    exec .stuckLine s = .next (s.faulted .lineStuck) := by
  have outside := State.outside_window h
  rw [exec_stuckLine_outside stuck h, State.lineFault_active (if_neg outside) (.inl outside) _ active]

theorem exec_stuckLine_unjoins (hs : s.station.state = .joining ∨ s.station.state = .leaving) :
    exec .stuckLine s = .next (s.faultUnjoined s.station.state .lineStuck) := by
  have outside := State.outside_window h
  rw [exec_stuckLine_outside stuck h, State.lineFault_unjoins (if_neg outside) (.inl outside) _ hs]
  rfl

end

/-! ### In a reply window -/

/-- R36, R111: the window closed with no reply, the access controller still to enter OFF. -/
abbrev State.unanswered (s : State) : State := s.closeWindow .noReply

section
variable {i : Nat} {m : Message} {mark : Option Mark} (h : AwaitsReply s i m mark)
include h

omit stuck in
theorem AwaitsReply.closeOpenWindow : s.closeOpenWindow = s.unanswered := if_pos h.access

omit stuck in
theorem AwaitsReply.unanswered_settled : s.unanswered.WindowSettled := by
  right
  show s.closeUnanswered.engine.inFlight = .none
  rw [h.closeUnanswered_engine]

theorem AwaitsReply.exec_stuckLine : exec .stuckLine s = .next (s.lineFault .lineStuck) :=
  exec_stuckLine_faults stuck (by simp [h.access])

/-- OFF follows whatever the access controller did before. -/
theorem AwaitsReply.exec_stuckLine_active (active : s.station.state = .active) :
    exec .stuckLine s = .next (s.closeUnanswered.faulted .lineStuck) := by
  rw [h.exec_stuckLine stuck, State.lineFault_active h.closeOpenWindow h.unanswered_settled _ active]
  rfl

theorem AwaitsReply.exec_stuckLine_leaving (leaving : s.station.state = .leaving) :
    exec .stuckLine s = .next (s.unanswered.faultUnjoined .leaving .lineStuck) := by
  rw [h.exec_stuckLine stuck, State.lineFault_unjoins h.closeOpenWindow h.unanswered_settled _ (.inr leaving), leaving]
  rfl

end
end

theorem State.unanswered_unchanged (s : State) :
    UnchangedBut [.station, .peers, .outbound, .engine, .outcomes, .access] s s.unanswered :=
  (s.settleWindow_settles .noReply).unchanged.append (State.modAccess_unchanged _ _)

/-! ### At the attempt limit -/

/-- The peer records where the change of one may name no peer (R61). -/
theorem State.peer_modPeer {s : State} {a : Nat} (h : a ≠ 0) (f : PeerRecord → PeerRecord) (b : Nat) :
    (s.modPeer a f).peer b = if b = a ∧ b ≤ 30 then f (s.peer b) else s.peer b := by
  by_cases hb : b = a
  · subst hb
    by_cases range : b ≤ 30
    · rw [if_pos ⟨rfl, range⟩, s.peer_modPeer_self b f h range]
    · have outside : ¬ b - 1 < 30 := by omega
      simp [State.modPeer, State.peer, h, range, outside]
  · rw [if_neg fun named => hb named.1, s.peer_modPeer_other a b f hb]

section
variable {s : State} {i : Nat} {m : Message} (h : AwaitsReply s i m none) (hs : StoreConsistent s)
  (limit : m.attempts = s.station.config.attemptLimit)
include h hs limit

/-- R68: no slot outside the destination's queue is touched. -/
theorem AwaitsReply.exhausted_slot_other {j : Nat} (hj : j ∉ s.queue m.dest) :
    s.closeUnanswered.slot j = s.slot j := by
  have hne : j ≠ i := fun hji => hj (hji ▸ hs.mem_queue h.slot h.live)
  have away : j ∉ (s.resolve i .noAck).queue m.dest := by
    rw [State.resolve_queue h.slot h.live _ hs]
    exact fun listed => hj (List.mem_of_mem_filter listed)
  rw [State.slot_congr h.closeUnanswered_outbound, State.settles_exhausted limit,
    State.makeSilent_slot_other (State.resolve_consistent h.slot h.live _ hs) _ away, s.resolve_slot_other i _ hne]

/-- R69, R93: the destination's messages are resolved already, and those of every other wait as before. -/
theorem AwaitsReply.exhausted_bulkOutcomes (r : MsgResult) (d : Nat) :
    s.unanswered.bulkOutcomes r d = if d ≠ m.dest then s.bulkOutcomes r d else [] := by
  by_cases hd : d = m.dest
  · have emptied : s.unanswered.queue m.dest = [] := h.exhausted_queue_self hs limit
    rw [if_neg (not_not.mpr hd), hd, State.bulkOutcomes, emptied]
    rfl
  · rw [if_pos hd]
    exact State.bulkOutcomes_congr (h.exhausted_queue_other hs limit hd)
      (fun j hj => h.exhausted_slot_other hs limit fun there => hs.notMem_queue hj (Ne.symm hd) there) r

end

/-! ### In LEAVING -/

section
variable {s : State} {i : Nat} {m : Message} {mark : Option Mark} (h : AwaitsReply s i m mark)
  (hs : StoreConsistent s)
include h hs

/-- A message that stands in a queue names a destination. -/
theorem AwaitsReply.dest_ne_zero : m.dest ≠ 0 := by
  obtain ⟨low, -⟩ := (mem_destinations m.dest).mp (State.mem_destinations_of_mem_queue (hs.mem_queue h.slot h.live))
  omega

/-- R68, R69, R62: SILENT if the attempts are exhausted, and every timer stopped. -/
theorem AwaitsReply.faultUnjoined_peer (a : Nat) : (s.unanswered.faultUnjoined .leaving .lineStuck).peer a =
    { s.peer a with
      presence :=
        if mark = none ∧ m.attempts = s.station.config.attemptLimit ∧ a = m.dest ∧ a ≤ 30 then .silent
        else (s.peer a).presence
      presenceTimer := .stopped
      holdTimer := .stopped } := by
  rw [State.faultUnjoined_peersKept]
  cases mark with
  | some k =>
    have same : s.unanswered.peer a = s.peer a := State.peer_congr (h.marked_unchanged .peers (by decide)) a
    simp [same]
  | none =>
    by_cases limit : m.attempts = s.station.config.attemptLimit
    · have settled : s.unanswered.peer a = _ := (h.exhausted_peer limit a).trans (State.peer_modPeer (h.dest_ne_zero hs) _ a)
      rw [settled]
      by_cases destination : a = m.dest ∧ a ≤ 30
      · rw [if_pos destination, if_pos ⟨rfl, limit, destination⟩]
        rfl
      · rw [if_neg destination, if_neg fun ⟨_, _, named⟩ => destination named]
    · have same : s.unanswered.peer a = s.peer a := State.peer_congr (h.retry_unchanged limit .peers (by decide)) a
      simp [same, limit]

omit h in
theorem State.unanswered_abandoned : (s.unanswered.faultUnjoined .leaving .lineStuck).owedOutcomes =
    s.unanswered.owedOutcomes ++ destinations.flatMap (s.unanswered.bulkOutcomes .abandoned) :=
  State.faultUnjoined_owed (hs.closeWindow .noReply) _

end

/-- The message of a retry wait, where it stands (R111, R113). -/
abbrev State.waiting (s : State) (i : Nat) (m : Message) : State := s.setSlot i ⟨(s.slot i).tag,
  some { m with state := .retryWait (s.station.config.retryMs m.attempts) }⟩

section
variable {s : State} {i : Nat} {m : Message} (hs : StoreConsistent s)
include hs

theorem AwaitsReply.retry_abandoned (h : AwaitsReply s i m none)
    (limit : m.attempts ≠ s.station.config.attemptLimit) :
    (s.unanswered.faultUnjoined .leaving .lineStuck).owedOutcomes =
      s.owedOutcomes ++ destinations.flatMap ((s.waiting i m).bulkOutcomes .abandoned) := by
  have outbound : s.unanswered.outbound = (s.waiting i m).outbound := by
    refine h.closeUnanswered_outbound.trans ?_
    rw [State.settles_retry limit, State.modMessage_of h.slot]
  have waits : s.unanswered.bulkOutcomes .abandoned = (s.waiting i m).bulkOutcomes .abandoned := funext fun d =>
    State.bulkOutcomes_congr (State.queue_congr outbound d) (fun j _ => State.slot_congr outbound j) _
  have owed : s.unanswered.owedOutcomes = s.owedOutcomes := h.retry_owed limit
  rw [State.unanswered_abandoned hs, waits, owed]

theorem AwaitsReply.marked_abandoned {k : Mark} (h : AwaitsReply s i m (some k)) :
    (s.unanswered.faultUnjoined .leaving .lineStuck).owedOutcomes =
      s.owedOutcomes ++ s.outcomeOf k.result i m :: destinations.flatMap (s.bulkOutcomes .abandoned) := by
  have waits : s.unanswered.bulkOutcomes .abandoned = s.bulkOutcomes .abandoned := funext fun d =>
    (State.bulkOutcomes_congr (s := s.resolve i k.result) (State.queue_congr h.closeUnanswered_outbound d)
      (fun j _ => State.slot_congr h.closeUnanswered_outbound j) _).trans
      (State.resolve_bulkOutcomes h.slot h.live hs (h.bulkOutcome_eq_none _) _ d)
  have owed : s.unanswered.owedOutcomes = s.owedOutcomes ++ [s.outcomeOf k.result i m] := h.marked_owed hs
  rw [State.unanswered_abandoned hs, waits, owed, List.append_assoc]
  rfl

theorem AwaitsReply.exhausted_abandoned (h : AwaitsReply s i m none)
    (limit : m.attempts = s.station.config.attemptLimit) :
    (s.unanswered.faultUnjoined .leaving .lineStuck).owedOutcomes =
      s.owedOutcomes ++ s.outcomeOf .noAck i m :: (s.bulkOutcomes .peerSilent m.dest ++
        (destinations.filter fun d => d ≠ m.dest).flatMap (s.bulkOutcomes .abandoned)) := by
  have owed : s.unanswered.owedOutcomes =
    s.owedOutcomes ++ s.outcomeOf .noAck i m :: s.bulkOutcomes .peerSilent m.dest := h.exhausted_owed hs limit
  have waits : destinations.flatMap (s.unanswered.bulkOutcomes .abandoned) =
      (destinations.filter fun d => d ≠ m.dest).flatMap (s.bulkOutcomes .abandoned) := by
    rw [funext (h.exhausted_bulkOutcomes hs limit .abandoned)]
    induction destinations with
    | nil => rfl
    | cons d ds ih => by_cases hd : d = m.dest <;> simpa [hd] using ih
  rw [State.unanswered_abandoned hs, waits, owed, List.append_assoc]
  rfl

end

/-- Settles O35: the order for LINE_FAULT in each state of the station, outside a reply window and inside. -/
theorem stuckLineFaults : Obligations.StuckLineFaults := by
  unfold Obligations.StuckLineFaults
  refine ⟨fun s => exec_stuckLine_stands, fun s stuck h active => exec_stuckLine_active stuck h active,
    fun s stuck h hs => ?_, ?_, fun s i m mark h stuck leaving hs => ?_⟩
  · have station := s.faultUnjoined_station s.station.state .lineStuck
    refine ⟨_, exec_stuckLine_unjoins stuck h hs, (s.faultUnjoined_unchanged _ _).mono (by decide),
      by rw [station]; rfl, by rw [station]; rfl, by rw [station]; rfl, by rw [station]; rfl, by rw [station]; rfl,
      s.faultUnjoined_peersKept _ _, rfl, fun joining => ?_, fun leaving consistent => ?_⟩
    · rw [joining]
      exact ⟨rfl, rfl⟩
    · rw [leaving]
      exact State.faultUnjoined_owed consistent _
  · intro s i m mark h stuck active faulted
    have faults := h.exec_stuckLine_active stuck active
    have ends := s.closeUnanswered.faulted_unchanged .lineStuck
    have asFaulted : faulted (s.closeUnanswered.faulted .lineStuck) :=
      ⟨(s.settleWindow_settles .noReply).station_fault .lineStuck, rfl, h.closeUnanswered_engine⟩
    refine ⟨?_, ?_, ?_⟩
    · rintro rfl limit
      exact ⟨_, faults, ((h.retry_unchanged limit).append ends).mono (by decide), asFaulted, h.retry_slot limit,
        fun j hj => h.retry_slot_other limit hj, h.retry_queue limit⟩
    · rintro k rfl hs
      exact ⟨_, faults, (h.marked_unchanged.append ends).mono (by decide), asFaulted, h.marked_owed hs,
        h.marked_queue hs, fun j hj => h.marked_slot_other hj⟩
    · rintro rfl limit hs low
      refine ⟨_, faults, (s.closeUnanswered_unchanged.append ends).mono (by decide), asFaulted,
        h.exhausted_owed hs limit, h.exhausted_queue_self hs limit, fun d hd => h.exhausted_queue_other hs limit hd,
        fun j hj => h.exhausted_slot_other hs limit hj, ?_, fun a ha => ?_⟩
      · exact (h.exhausted_peer limit _).trans (s.peer_modPeer_self m.dest _ (h.dest_ne_zero hs) low)
      · exact h.closeUnanswered_peer ha
  · have station : (s.unanswered.faultUnjoined .leaving .lineStuck).station = s.station.unjoinFor .lineStuck :=
      (State.faultUnjoined_station _ _ _).trans ((s.settleWindow_settles .noReply).station_unjoinFor .lineStuck)
    have same := s.unanswered.faultUnjoined_unchanged .leaving .lineStuck
    have landed : (s.unanswered.faultUnjoined .leaving .lineStuck).engine = s.unanswered.engine :=
      same .engine (by decide)
    refine ⟨_, h.exec_stuckLine_leaving stuck leaving, (s.unanswered_unchanged.append same).mono (by decide),
      by rw [station]; rfl, by rw [station]; rfl, by rw [station]; rfl, by rw [station]; rfl, by rw [station]; rfl,
      ?_, rfl, h.faultUnjoined_peer hs, ?_, ?_, ?_⟩
    · rw [landed, show s.unanswered.engine = _ from h.closeUnanswered_engine]
    · rintro rfl limit
      exact h.retry_abandoned hs limit
    · rintro k rfl
      exact h.marked_abandoned hs
    · rintro rfl limit -
      exact h.exhausted_abandoned hs limit

end Sys2Proof.Machine
end
